-- ==== Sys2Proof/Word.lean ====
section
/-! DEFINITION. The word types of the block: the 16-bit command word, the 8-bit register value and
the 5-bit flag file (00_scope.md R6, R7). -/

namespace Sys2Proof

/-- A command word (30_encoding.md R70). -/
abbrev Word := BitVec 16

/-- A register value, or a vector (00_scope.md R6, R7). -/
abbrev Byte := BitVec 8

/-- The five flags of a flag file as the value `reqv` or `mskv` of 00_scope.md section 5: bit `i` is
the flag of source `i`. -/
abbrev FlagFile := BitVec 5

end Sys2Proof
end

