-- ==== Sys2Proof/Syntax.lean ====
section
/-! DEFINITION. The names of the block: its five sources, its two registers, its nine operations, and
the command an operation becomes once its operand is known. -/

namespace Sys2Proof

/-- The five interrupt sources, by the spec's short names (10_state.md R26). -/
inductive Source where
  | vblank
  | stat
  | timer
  | serial
  | joypad
  deriving DecidableEq, Repr

/-- The two registers of the register space, selected by opcode and not by address (20_memory.md R50). -/
inductive Register where
  | req
  | msk
  deriving DecidableEq, Repr

/-- The nine operations of the opcode map (30_encoding.md R72). -/
inductive Op where
  | request
  | flush
  | enable
  | disable
  | rdpend
  | rdreq
  | wrreq
  | rdmsk
  | wrmsk
  deriving DecidableEq, Repr

/-- A command: one constructor per row of the opcode table (30_encoding.md R72). -/
inductive Instr where
  /-- REQUEST; `src` is `w[10:8]`, all eight values decode (R73). -/
  | request (src : BitVec 3)
  /-- FLUSH. -/
  | flush
  /-- ENABLE. -/
  | enable
  /-- DISABLE. -/
  | disable
  /-- RDPEND. -/
  | rdpend
  /-- RDREQ. -/
  | rdreq
  /-- WRREQ; `data` is `w[7:0]`, every value legal (R74). -/
  | wrreq (data : Byte)
  /-- RDMSK. -/
  | rdmsk
  /-- WRMSK; `data` is `w[7:0]`, every value legal (R74). -/
  | wrmsk (data : Byte)
  deriving DecidableEq, Repr

/-- The operation of a command. -/
def Instr.op : Instr → Op
  | .request _ => .request
  | .flush => .flush
  | .enable => .enable
  | .disable => .disable
  | .rdpend => .rdpend
  | .rdreq => .rdreq
  | .wrreq _ => .wrreq
  | .rdmsk => .rdmsk
  | .wrmsk _ => .wrmsk

end Sys2Proof
end

