-- ==== Sys2Proof/Machine/Sources.lean ====
section
/-! DEFINITION. The per-source constants of 10_state.md R26 and R27. -/

namespace Sys2Proof

/-- The sources in strict priority order, highest first: the one place the order is written (R27). The
scan of the priority encoder and the bit layout of both registers follow it. -/
def Source.all : List Source := [.vblank, .stat, .timer, .serial, .joypad]

/-- The source's index: its place in `Source.all` and its bit in both registers (R26, R27). -/
def Source.index (i : Source) : Nat := Source.all.idxOf i

/-- The source's priority rank, 1 the highest (R26, R27). -/
def Source.rank (i : Source) : Nat := i.index + 1

/-- The source's vector (R26, 40_arbiter.md R101). -/
def Source.vec : Source → Byte
  | .vblank => 0x40#8
  | .stat => 0x48#8
  | .timer => 0x50#8
  | .serial => 0x58#8
  | .joypad => 0x60#8

/-- The source with a given index; none for 5 to 7 (30_encoding.md R73). -/
def Source.ofIndex (n : Nat) : Option Source := Source.all[n]?

end Sys2Proof
end

