-- ==== Sys2Proof/Config.lean ====
section
/-! DEFINITION. The parameters of 00_scope.md R7 that the source does not fix. -/

namespace Sys2Proof

/-- `RESET_MASK` at the spec's default, all sources masked (10_state.md R33, D6). `State.resetWith`
takes any other value; only `State.reset` uses this one. DESIGN CHOICE, unsafe: log 6. -/
def Config.resetMask : FlagFile := 0b11111#5

/-- `REQ_ADDR`, the request register's address in the console's I/O space: open, and read by nothing
in the block (20_memory.md R51, D10). DESIGN CHOICE, safe: log 8. -/
opaque Config.reqAddr : Nat

/-- `MSK_ADDR`, the mask register's address: open, and read by nothing in the block (20_memory.md R51,
D10). DESIGN CHOICE, safe: log 8. -/
opaque Config.mskAddr : Nat

end Sys2Proof
end

