-- ==== Sys2Proof/WellFormed.lean ====
section
/-! DEFINITION. The one check a command can fail. Every operand has its field's exact width, so every
command has an encoding; what is left is the caller's contract on REQUEST's source identifier. -/

namespace Sys2Proof

/-- The command keeps the caller's contract: REQUEST names one of the five sources, indices 0 to 4
(30_encoding.md R73). A REQUEST with `src` 5 to 7 still decodes and runs; it raises
Fault(InvalidSource) (60_exceptions.md R163). -/
def Instr.wellFormed : Instr → Bool
  | .request src => decide (src.toNat ≤ 4)
  | .flush => true
  | .enable => true
  | .disable => true
  | .rdpend => true
  | .rdreq => true
  | .wrreq _ => true
  | .rdmsk => true
  | .wrmsk _ => true

end Sys2Proof
end

