-- ==== Sys2Proof/Decode.lean ====
section
/-! DEFINITION. The command word: its fields, the total decoder of 30_encoding.md R77, the opcode map
of R72 as a table, and the encoder. The whole encoding is the spec's own decision D2: log 9. -/

namespace Sys2Proof

/-- `op = w[15:12]` (R70). -/
def fieldOp (w : Word) : BitVec 4 := w.extractLsb' 12 4

/-- `z = w[11]` (R70). -/
def fieldZ (w : Word) : BitVec 1 := w.extractLsb' 11 1

/-- `src = w[10:8]` (R70). -/
def fieldSrc (w : Word) : BitVec 3 := w.extractLsb' 8 3

/-- `data = w[7:0]` (R70). -/
def fieldData (w : Word) : Byte := w.extractLsb' 0 8

/-- Why a word is Illegal; both reasons raise the one fault IllegalCommand (R162). -/
inductive Illegal where
  /-- Opcode 0x0 or 0xA to 0xF (R76). -/
  | reservedOpcode
  /-- A mapped opcode with a nonzero must-be-zero bit (R75). -/
  | mustBeZero
  deriving DecidableEq, Repr

/-- What decoding gives: `Command | Illegal` (R77). -/
inductive Decoded where
  | command (i : Instr)
  | illegal (why : Illegal)
  deriving DecidableEq, Repr

/-- The command `i` if the bits that must be zero are zero, else Illegal (R75). -/
def checked (zero : Bool) (i : Instr) : Decoded :=
  if zero then .command i else .illegal .mustBeZero

/-- `rest = w[11:0]` is zero: the operand-free operations (R77). -/
def restZero (w : Word) : Bool := w.extractLsb' 0 12 == 0#12

/-- The decoder, case by case as R77 writes it; total over all 65536 words. -/
def decode (w : Word) : Decoded :=
  match fieldOp w with
  | 0x1#4 => checked (fieldZ w == 0#1 && fieldData w == 0#8) (.request (fieldSrc w))
  | 0x2#4 => checked (restZero w) .flush
  | 0x3#4 => checked (restZero w) .enable
  | 0x4#4 => checked (restZero w) .disable
  | 0x5#4 => checked (restZero w) .rdpend
  | 0x6#4 => checked (restZero w) .rdreq
  | 0x7#4 => checked (w.extractLsb' 8 4 == 0#4) (.wrreq (fieldData w))
  | 0x8#4 => checked (restZero w) .rdmsk
  | 0x9#4 => checked (w.extractLsb' 8 4 == 0#4) (.wrmsk (fieldData w))
  | _ => .illegal .reservedOpcode

/-- The command of a decoded word, if it has one. -/
def Decoded.command? : Decoded → Option Instr
  | .command i => some i
  | .illegal _ => none

/-- A row of the opcode map: a word selects it when `(w & mask) = pattern` (R72). -/
structure OpcodeRow where
  op : Op
  pattern : Word
  mask : Word
  deriving DecidableEq, Repr

/-- The word selects the row (R72). -/
def OpcodeRow.selects (r : OpcodeRow) (w : Word) : Bool := w &&& r.mask == r.pattern

/-- The opcode map's match and mask columns (R72). -/
def opcodeTable : List OpcodeRow :=
  [ ⟨.request, 0x1000#16, 0xF8FF#16⟩,
    ⟨.flush, 0x2000#16, 0xFFFF#16⟩,
    ⟨.enable, 0x3000#16, 0xFFFF#16⟩,
    ⟨.disable, 0x4000#16, 0xFFFF#16⟩,
    ⟨.rdpend, 0x5000#16, 0xFFFF#16⟩,
    ⟨.rdreq, 0x6000#16, 0xFFFF#16⟩,
    ⟨.wrreq, 0x7000#16, 0xFF00#16⟩,
    ⟨.rdmsk, 0x8000#16, 0xFFFF#16⟩,
    ⟨.wrmsk, 0x9000#16, 0xFF00#16⟩ ]

/-- The `op` value of an operation (R72). -/
def Op.code : Op → BitVec 4
  | .request => 0x1#4
  | .flush => 0x2#4
  | .enable => 0x3#4
  | .disable => 0x4#4
  | .rdpend => 0x5#4
  | .rdreq => 0x6#4
  | .wrreq => 0x7#4
  | .rdmsk => 0x8#4
  | .wrmsk => 0x9#4

/-- The command word `op, z, src, data`, with `z` zero (R70). -/
def commandWord (op : Op) (src : BitVec 3) (data : Byte) : Word :=
  op.code ++ 0#1 ++ src ++ data

/-- The encoder: each command is exactly one word (R72, R80). -/
def encode : Instr → Word
  | .request src => commandWord .request src 0#8
  | .flush => commandWord .flush 0#3 0#8
  | .enable => commandWord .enable 0#3 0#8
  | .disable => commandWord .disable 0#3 0#8
  | .rdpend => commandWord .rdpend 0#3 0#8
  | .rdreq => commandWord .rdreq 0#3 0#8
  | .wrreq data => commandWord .wrreq 0#3 data
  | .rdmsk => commandWord .rdmsk 0#3 0#8
  | .wrmsk data => commandWord .wrmsk 0#3 data

/-- The word of `nbits` bits of a table row as a command word, the bits above `nbits` zero; none if it
does not fit the one length of R78. -/
def tableWord (nbits w : Nat) : Option Word :=
  if w % 2 ^ nbits < 65536 then some (BitVec.ofNat 16 (w % 2 ^ nbits)) else none

/-- The command the decoder reads from a table row's word. -/
def decodeTableWord (nbits w : Nat) : Option Instr :=
  match tableWord nbits w with
  | some v => (decode v).command?
  | none => none

end Sys2Proof
end

