-- ==== Sys2Proof/Machine/State.lean ====
section
/-! DEFINITION. The machine's state as plain data: the twelve bits of 10_state.md R20, the fault mark of
60_exceptions.md R161, the last response (30_encoding.md R71) and the host's remaining commands. -/

namespace Sys2Proof.Machine

/-- The two model faults, each with the offending command word (60_exceptions.md R160). A fault is
first entered as a state (`State.faulted`), as R161 says; every step from that state then stops with
it. -/
inductive Fault where
  /-- A reserved opcode or a nonzero must-be-zero bit (R162). Raised by `step` when the word decodes to
  Illegal. Safe: the model stops where the source has no such word (D3): log 9. -/
  | illegalCommand (w : Word)
  /-- REQUEST with `src` 5 to 7 (R163). Raised by REQUEST. Safe: the source allows a fatal assertion or
  an ignored no-op, and the spec takes the first (D5): log 10. -/
  | invalidSource (w : Word)
  deriving DecidableEq, Repr

/-- The word a fault records (R160). -/
def Fault.word : Fault → Word
  | .illegalCommand w => w
  | .invalidSource w => w

/-- Why a step can be refused. -/
inductive Refusal where
  /-- An instruction with no meaning yet. Raised only by an arm of `exec`; no arm raises it in this
  model. Safe: the machine stops. -/
  | notModelled (mnemonic : String)
  deriving DecidableEq, Repr

/-- The response record of an operation, with the defaults every operation starts from
(30_encoding.md R71). -/
structure Response where
  /-- The read value, if the operation reads a register. -/
  rdata : Option Byte := none
  /-- The wake signal. -/
  wake : Bool := false
  /-- The vector of a delivery: the source's `vector_to(address)` call. -/
  deliver : Option Byte := none
  deriving DecidableEq, Repr

structure State where
  /-- The global enable latch (10_state.md R21). -/
  en : Bool
  /-- The pending-mid-cycle flag (R22). -/
  pend : Bool
  /-- The request flags as `reqv`; bit `i` is `req[i]` (R23). -/
  req : FlagFile
  /-- The mask flags as `mskv`; bit `i` is `msk[i]`, set when source `i` is masked (R24). -/
  msk : FlagFile
  /-- The fault mark and the recorded word, if a fault was raised (60_exceptions.md R161). -/
  faulted : Option Fault
  /-- The response of the last command; none before the first one (70_reset_and_hazards.md R191) and
  after a command that faulted. DESIGN CHOICE, safe: logs 4 and 5. -/
  resp : Option Response
  /-- The command words the host has still to apply, next first (60_exceptions.md R179). DESIGN CHOICE,
  safe: log 1. -/
  cmds : List Word
  deriving DecidableEq, Repr

/-- The two macro-states (41_global_enable.md R120). -/
inductive MacroState where
  | disabled
  | enabled
  deriving DecidableEq, Repr

/-- The state after reset for a given `RESET_MASK` (70_reset_and_hazards.md R190, R191). -/
def State.resetWith (mask : FlagFile) : State where
  en := false
  pend := false
  req := 0#5
  msk := mask
  faulted := none
  resp := none
  cmds := []

/-- The state after reset under the spec's default `RESET_MASK` (R190). -/
def State.reset : State := State.resetWith Config.resetMask

end Sys2Proof.Machine
end

