-- ==== Sys2Proof/Machine/Operands.lean ====
section
/-! DEFINITION. The operand forms: the source operand of REQUEST and the data operand of WRREQ and
WRMSK (30_encoding.md R73, R74), and widening to a register value. -/

namespace Sys2Proof.Machine

/-- REQUEST's `src`, an unsigned index; none for 5 to 7, which raise Fault(InvalidSource) (R73). -/
def srcOperand (src : BitVec 3) : Option Source := Source.ofIndex src.toNat

/-- `data[4:0]`: the bits of the write value that are used; `data[7:5]` is ignored (R74). -/
def dataFlags (data : Byte) : FlagFile := data.extractLsb' 0 5

/-- `zext_8` of a flag file (00_scope.md section 5). -/
def zext8 (v : FlagFile) : Byte := v.setWidth 8

/-- `zext_8(b2i(b))` (00_scope.md section 5). -/
def boolByte (b : Bool) : Byte := if b then 0x01#8 else 0x00#8

end Sys2Proof.Machine
end

