-- ==== Sys2Proof/Machine/Flags.lean ====
section
/-! DEFINITION. Every flag computation: one flag of a file, the flags a register write gives, the
condition on `pend`, the wake signal and the priority encoder. -/

namespace Sys2Proof.Machine

/-- Flag `i` of a flag file: `req[i]` or `msk[i]`. -/
def flag (v : FlagFile) (i : Source) : Bool := v.getLsbD i.index

/-- The flag file with flag `i` set. -/
def setFlag (v : FlagFile) (i : Source) : FlagFile := v ||| (1#5 <<< i.index)

/-- The flag file with flag `i` cleared. -/
def clearFlag (v : FlagFile) (i : Source) : FlagFile := v &&& ~~~(1#5 <<< i.index)

/-- The request flags WRREQ writes: `req[i] <- (data[i] = 1)` (42_registers.md R143). -/
def reqOfData (data : Byte) : FlagFile := dataFlags data

/-- The mask flags WRMSK writes: `msk[i] <- (data[i] = 0)` (42_registers.md R147). -/
def mskOfData (data : Byte) : FlagFile := ~~~dataFlags data

/-- `pend` after WRREQ: set when `en` is true and `data[4:0]` is not zero, else kept (R143, R145). -/
def pendAfterWrite (en pend : Bool) (data : Byte) : Bool :=
  if en && dataFlags data != 0#5 then true else pend

/-- The sources that request and are unmasked: `reqv & ~mskv` (40_arbiter.md R100). -/
def unmasked (reqv mskv : FlagFile) : FlagFile := reqv &&& ~~~mskv

/-- The priority encoder: the first source, in priority order, that requests and is unmasked (R100). -/
def select (reqv mskv : FlagFile) : Option Source :=
  Source.all.find? (flag (unmasked reqv mskv))

/-- Some source requests, masked or not: the wake signal of a flush while `en` is false (R102, R106). -/
def anyRequest (reqv : FlagFile) : Bool := reqv != 0#5

end Sys2Proof.Machine
end

