-- ==== Sys2Proof/Machine/Ops.lean ====
section
/-! DEFINITION. The named operations over the state: the writes of single fields, the register views,
delivery, the flush procedure, raising a fault and fetching the next command. -/

namespace Sys2Proof.Machine

/-- Writes the global enable latch. -/
def State.setEn (b : Bool) (s : State) : State := { s with en := b }

/-- Writes the pending-mid-cycle flag. -/
def State.setPend (b : Bool) (s : State) : State := { s with pend := b }

/-- Writes all five request flags. -/
def State.setReqFlags (v : FlagFile) (s : State) : State := { s with req := v }

/-- Writes all five mask flags. -/
def State.setMskFlags (v : FlagFile) (s : State) : State := { s with msk := v }

/-- Leaves the host these commands to apply. -/
def State.setCmds (ws : List Word) (s : State) : State := { s with cmds := ws }

/-- Returns a response: each operation returns one (30_encoding.md R71). -/
def State.respond (r : Response) (s : State) : State := { s with resp := some r }

/-- `req[i] <- true`. -/
def State.postRequest (i : Source) (s : State) : State := s.setReqFlags (setFlag s.req i)

/-- `req[i] <- false`. -/
def State.clearRequest (i : Source) (s : State) : State := s.setReqFlags (clearFlag s.req i)

/-- The macro-state (41_global_enable.md R120). -/
def State.macroState (s : State) : MacroState := if s.en then .enabled else .disabled

/-- The value a register reads as (10_state.md R28, R29). -/
def readRegister (r : Register) (s : State) : Byte :=
  match r with
  | .req => 0xE0#8 ||| zext8 s.req
  | .msk => zext8 (~~~s.msk &&& 0x1F#5)

/-- What a register write does: no flush, in neither case (42_registers.md R143, R144, R147, R148). -/
def writeRegister (r : Register) (data : Byte) (s : State) : State :=
  match r with
  | .req => (s.setReqFlags (reqOfData data)).setPend (pendAfterWrite s.en s.pend data)
  | .msk => s.setMskFlags (mskOfData data)

/-- Raising a fault (60_exceptions.md R161): the mark is set, the word recorded, none of `en`, `pend`,
`req`, `msk` changed, and no response is returned. DEDUCED, safe: logs 3 and 4. -/
def raiseFault (f : Fault) (s : State) : State := { s with faulted := some f, resp := none }

/-- Delivery, the block's share of interrupt entry (60_exceptions.md R168): `req[i]` is cleared and the
response carries `vec(i)`. Nothing is saved and `en` is not written (40_arbiter.md R105). The block has
no return from it (R172). -/
def deliver (i : Source) (s : State) : State × Response :=
  (s.clearRequest i, { deliver := some i.vec })

/-- `do_flush()`, the one scan-and-deliver step, with the wake signal and the delivery it returns
(40_arbiter.md R102). -/
def doFlush (s : State) : State × Response :=
  let s₁ := s.setPend false
  if s.en then
    match select s.req s.msk with
    | some i => deliver i s₁
    | none => (s₁, {})
  else (s₁, { wake := anyRequest s.req })

/-- A flush whose wake signal and delivery become the response: `(resp.wake, resp.deliver) <-
do_flush()` (R103, R107, 41_global_enable.md R121). -/
def flushAndRespond (s : State) : State := (doFlush s).1.respond (doFlush s).2

/-- The next command word the host applies, and the state without it (60_exceptions.md R177). -/
def fetch (s : State) : Option (Word × State) :=
  match s.cmds with
  | [] => none
  | w :: rest => some (w, s.setCmds rest)

/-- A step with no command: the block has no move of its own (R177). DEDUCED, safe: log 2. -/
def idle (s : State) : State := s

/-- The host has one more command to apply, before any other: log 11. -/
def State.pushCommand (w : Word) (s : State) : State := s.setCmds (w :: s.cmds)

end Sys2Proof.Machine
end

