-- ==== Sys2Proof/Machine/Arbiter.lean ====
section
/-! DEFINITION. FLUSH and REQUEST (40_arbiter.md). -/

namespace Sys2Proof.Machine

/-- FLUSH (R103). -/
def execFlush (s : State) : Host.Outcome State Fault Refusal :=
  .next (flushAndRespond s)

/-- REQUEST (R107): a `src` of 5 to 7 raises Fault(InvalidSource) before any state change (R163); the
recorded word is the command's only encoding (DEDUCED, safe: log 3). Otherwise the flag is set, and
with `en` true one flush follows in the same step (R108). -/
def execRequest (src : BitVec 3) (s : State) : Host.Outcome State Fault Refusal :=
  match srcOperand src with
  | none => .next (raiseFault (.invalidSource (encode (.request src))) s)
  | some i =>
    let s₁ := s.postRequest i
    if s₁.en then .next (flushAndRespond s₁) else .next (s₁.respond {})

end Sys2Proof.Machine
end

