-- ==== Sys2Proof/Machine/GlobalEnable.lean ====
section
/-! DEFINITION. ENABLE, DISABLE and RDPEND (41_global_enable.md). -/

namespace Sys2Proof.Machine

/-- ENABLE (R121): the latch is set, then one flush that sees it set, with no delay (R122). -/
def execEnable (s : State) : Host.Outcome State Fault Refusal :=
  .next (flushAndRespond (s.setEn true))

/-- DISABLE (R123): the latch is cleared; no flush, and nothing else changes. -/
def execDisable (s : State) : Host.Outcome State Fault Refusal :=
  .next ((s.setEn false).respond {})

/-- RDPEND (R125): returns `pend` and changes nothing. -/
def execRdpend (s : State) : Host.Outcome State Fault Refusal :=
  .next (s.respond { rdata := some (boolByte s.pend) })

end Sys2Proof.Machine
end

