-- ==== Sys2Proof/Machine/Registers.lean ====
section
/-! DEFINITION. RDREQ, WRREQ, RDMSK and WRMSK (42_registers.md). -/

namespace Sys2Proof.Machine

/-- RDREQ (R141, R142). -/
def execRdreq (s : State) : Host.Outcome State Fault Refusal :=
  .next (s.respond { rdata := some (readRegister .req s) })

/-- WRREQ (R143, R144, R145). -/
def execWrreq (data : Byte) (s : State) : Host.Outcome State Fault Refusal :=
  .next ((writeRegister .req data s).respond {})

/-- RDMSK (R146, R142). -/
def execRdmsk (s : State) : Host.Outcome State Fault Refusal :=
  .next (s.respond { rdata := some (readRegister .msk s) })

/-- WRMSK (R147, R148). -/
def execWrmsk (data : Byte) (s : State) : Host.Outcome State Fault Refusal :=
  .next ((writeRegister .msk data s).respond {})

end Sys2Proof.Machine
end

