-- ==== Sys2Proof/Machine/Dispatch.lean ====
section
/-! DEFINITION. The meaning of every command: one arm per row of the opcode table. -/

namespace Sys2Proof.Machine

def exec (i : Instr) (s : State) : Host.Outcome State Fault Refusal :=
  match i with
  | .request src => Sys2Proof.Machine.execRequest src s
  | .flush => Sys2Proof.Machine.execFlush s
  | .enable => Sys2Proof.Machine.execEnable s
  | .disable => Sys2Proof.Machine.execDisable s
  | .rdpend => Sys2Proof.Machine.execRdpend s
  | .rdreq => Sys2Proof.Machine.execRdreq s
  | .wrreq data => Sys2Proof.Machine.execWrreq data s
  | .rdmsk => Sys2Proof.Machine.execRdmsk s
  | .wrmsk data => Sys2Proof.Machine.execWrmsk data s

end Sys2Proof.Machine
end

