-- ==== Sys2Proof/Machine/Step.lean ====
section
/-! DEFINITION. One step: the host applies its next command word (00_scope.md R8). -/

namespace Sys2Proof.Machine

/-- One step. A faulted model takes no further step (60_exceptions.md R161): it stops with its fault.
With no command left the block does not move (R177). A word that decodes runs as its command; an
Illegal word raises Fault(IllegalCommand) before anything else happens (R162). -/
def step (s : State) : Host.Outcome State Fault Refusal :=
  match s.faulted with
  | some f => .fault f
  | none =>
    match fetch s with
    | none => .next (idle s)
    | some (w, s₁) =>
      match decode w with
      | .command i => exec i s₁
      | .illegal _ => .next (raiseFault (.illegalCommand w) s₁)

/-- The state with a table row's word as the very next command of the host: log 11. A word too long
for R78's one length is no command, and nothing is placed. -/
def State.withFetchWord (s : State) (nbits w : Nat) : State :=
  match tableWord nbits w with
  | some v => s.pushCommand v
  | none => s

end Sys2Proof.Machine
end

