-- ==== Sys2Proof/Machine/Assembler.lean ====
section
/-! DEFINITION. The textual syntax for command sequences (30_encoding.md R79): one command a line, `;`
starts a comment, mnemonics and source names in either case, no pseudo-instructions (R80). Text is a
list of characters. What R79 leaves open (blank lines, spacing, the case of hex digits) is a DESIGN
CHOICE, safe: log 12. -/

namespace Sys2Proof

/-- The mnemonic of an operation. -/
def Op.name : Op → List Char
  | .request => ['R', 'E', 'Q', 'U', 'E', 'S', 'T']
  | .flush => ['F', 'L', 'U', 'S', 'H']
  | .enable => ['E', 'N', 'A', 'B', 'L', 'E']
  | .disable => ['D', 'I', 'S', 'A', 'B', 'L', 'E']
  | .rdpend => ['R', 'D', 'P', 'E', 'N', 'D']
  | .rdreq => ['R', 'D', 'R', 'E', 'Q']
  | .wrreq => ['W', 'R', 'R', 'E', 'Q']
  | .rdmsk => ['R', 'D', 'M', 'S', 'K']
  | .wrmsk => ['W', 'R', 'M', 'S', 'K']

/-- The nine operations. -/
def Op.all : List Op :=
  [.request, .flush, .enable, .disable, .rdpend, .rdreq, .wrreq, .rdmsk, .wrmsk]

/-- The name of a source (10_state.md R26). -/
def Source.name : Source → List Char
  | .vblank => ['V', 'B', 'L', 'A', 'N', 'K']
  | .stat => ['S', 'T', 'A', 'T']
  | .timer => ['T', 'I', 'M', 'E', 'R']
  | .serial => ['S', 'E', 'R', 'I', 'A', 'L']
  | .joypad => ['J', 'O', 'Y', 'P', 'A', 'D']

/-- The hex digits in order. -/
def hexDigits : List Char :=
  ['0', '1', '2', '3', '4', '5', '6', '7', '8', '9', 'A', 'B', 'C', 'D', 'E', 'F']

/-- The value of a hex digit in either case. -/
def hexValue (c : Char) : Option Nat :=
  if c.toUpper ∈ hexDigits then some (hexDigits.idxOf c.toUpper) else none

/-- A space or a tab. -/
def isBlank (c : Char) : Bool := c == ' ' || c == '\t'

/-- The words of a line, split at blanks; `word` is the part of the current word already read. -/
def splitWords (word : List Char) : List Char → List (List Char)
  | [] => if word.isEmpty then [] else [word]
  | c :: cs =>
    if isBlank c then
      if word.isEmpty then splitWords [] cs else word :: splitWords [] cs
    else splitWords (word ++ [c]) cs

/-- REQUEST's operand: a source name, or `#n` with n = 0 to 7. -/
def parseSrc (t : List Char) : Option (BitVec 3) :=
  match Source.all.find? (fun i => i.name == t.map Char.toUpper) with
  | some i => some (BitVec.ofNat 3 i.index)
  | none =>
    match t with
    | ['#', d] =>
      match hexValue d with
      | some n => if n < 8 then some (BitVec.ofNat 3 n) else none
      | none => none
    | _ => none

/-- The operand of the two writes: `#0x` and two hex digits. -/
def parseImm (t : List Char) : Option Byte :=
  match t with
  | ['#', '0', 'x', h, l] =>
    match hexValue h, hexValue l with
    | some a, some b => some (BitVec.ofNat 8 (16 * a + b))
    | _, _ => none
  | _ => none

/-- The command of an operation and its written operands. -/
def parseCommand (op : Op) (operands : List (List Char)) : Option Instr :=
  match op, operands with
  | .request, [t] => (parseSrc t).map .request
  | .flush, [] => some .flush
  | .enable, [] => some .enable
  | .disable, [] => some .disable
  | .rdpend, [] => some .rdpend
  | .rdreq, [] => some .rdreq
  | .wrreq, [t] => (parseImm t).map .wrreq
  | .rdmsk, [] => some .rdmsk
  | .wrmsk, [t] => (parseImm t).map .wrmsk
  | _, _ => none

/-- The commands of one line: one command, or none on a line that holds only blanks and a comment; no
answer on a line that is not of the syntax. -/
def assembleLine (line : List Char) : Option (List Instr) :=
  match splitWords [] (line.takeWhile (· != ';')) with
  | [] => some []
  | m :: operands =>
    match Op.all.find? (fun op => op.name == m.map Char.toUpper) with
    | some op => (parseCommand op operands).map fun i => [i]
    | none => none

/-- The lines of a text; `line` is the part of the current line already read. -/
def splitLines (line : List Char) : List Char → List (List Char)
  | [] => [line]
  | c :: cs => if c == '\n' then line :: splitLines [] cs else splitLines (line ++ [c]) cs

/-- The command words of a list of lines, in order. -/
def assembleLines : List (List Char) → Option (List Word)
  | [] => some []
  | l :: ls =>
    match assembleLine l, assembleLines ls with
    | some is, some ws => some (is.map encode ++ ws)
    | _, _ => none

/-- The command words of a text (R79). -/
def assemble (text : List Char) : Option (List Word) := assembleLines (splitLines [] text)

/-- `#0x` and the two hex digits of a byte. -/
def writeImm (b : Byte) : List Char :=
  ['#', '0', 'x', hexDigits.getD (b.toNat / 16) '0', hexDigits.getD (b.toNat % 16) '0']

/-- A source operand as the test vectors write it: its name, or `#5` to `#7`. -/
def writeSrc (src : BitVec 3) : List Char :=
  match Source.ofIndex src.toNat with
  | some i => i.name
  | none => ['#', hexDigits.getD src.toNat '0']

/-- A command as one line of text. -/
def writeLine : Instr → List Char
  | .request src => Op.request.name ++ [' '] ++ writeSrc src
  | .flush => Op.flush.name
  | .enable => Op.enable.name
  | .disable => Op.disable.name
  | .rdpend => Op.rdpend.name
  | .rdreq => Op.rdreq.name
  | .wrreq data => Op.wrreq.name ++ [' '] ++ writeImm data
  | .rdmsk => Op.rdmsk.name
  | .wrmsk data => Op.wrmsk.name ++ [' '] ++ writeImm data

end Sys2Proof
end

