-- ==== Sys2Proof/Safety.lean ====
section
/-! DEFINITION. What counts as a good state, a successful run and a host that meets its duty: the words
the claims use. -/

namespace Sys2Proof.Machine

/-- Source `i` wins the scan: it requests and is unmasked, and no source of higher priority does both
(40_arbiter.md R100). -/
def Wins (reqv mskv : FlagFile) (i : Source) : Prop :=
  flag reqv i = true ∧ flag mskv i = false ∧
    ∀ j : Source, j.rank < i.rank → ¬(flag reqv j = true ∧ flag mskv j = false)

/-- No source both requests and is unmasked. -/
def NoneWins (reqv mskv : FlagFile) : Prop :=
  ∀ i : Source, ¬(flag reqv i = true ∧ flag mskv i = false)

/-- The word keeps the caller's contract: it decodes, and to a well-formed command. -/
def legalWord (w : Word) : Bool :=
  match decode w with
  | .command i => i.wellFormed
  | .illegal _ => false

/-- A run has ended well: every command was applied and no fault was raised (60_exceptions.md R179; a
faulted state is never a successful end, R161). -/
def successfulEnd (s : State) : Bool := s.cmds.isEmpty && s.faulted.isNone

/-- The last command delivered a source. -/
def delivered (s : State) : Bool :=
  match s.resp with
  | some r => r.deliver.isSome
  | none => false

/-- The command the host applies next, if its word decodes. -/
def nextCommand (s : State) : Option Instr :=
  match s.cmds with
  | [] => none
  | w :: _ => (decode w).command?

/-- The command performs a flush in this state: FLUSH, ENABLE, and a legal REQUEST with `en` true
(40_arbiter.md R102). -/
def performsFlush (i : Instr) (s : State) : Bool :=
  match i with
  | .request _ => s.en && i.wellFormed
  | .flush => true
  | .enable => true
  | .disable => false
  | .rdpend => false
  | .rdreq => false
  | .wrreq _ => false
  | .rdmsk => false
  | .wrmsk _ => false

/-- The next command is a flush-performing one. -/
def nextPerformsFlush (s : State) : Bool :=
  match nextCommand s with
  | some i => performsFlush i s
  | none => false

/-- Whether DISABLE is still owed after a step from `s` to `t`: DISABLE pays, a delivery owes. -/
def owedAfter (owed : Bool) (s t : State) : Bool :=
  match nextCommand s with
  | some i => if i = .disable then false else owed || delivered t
  | none => owed

/-- Over the next `n` steps, the host applies no flush-performing command while it owes a DISABLE. A step
that stops applies no command: from a faulted state no later word is applied, so none of them can break
the duty (60_exceptions.md R161). -/
def dutyMet : Nat → Bool → State → Bool
  | 0, _, _ => true
  | n + 1, owed, s =>
    match step s with
    | .next t => if owed && nextPerformsFlush s then false else dutyMet n (owedAfter owed s t) t
    | .fault _ => true
    | .refused _ => true

/-- The host duty of 60_exceptions.md R170 over the commands the host has still to apply, a named
premise (D14): on every delivery it applies DISABLE before any further flush-performing command. If the
last command delivered, the duty is owed from the start. DEDUCED, unsafe for a core that breaks the
duty: log 13. -/
abbrev HostDisablesOnDelivery (s : State) : Prop := dutyMet s.cmds.length (delivered s) s = true

/-- What a fault records agrees with the decoder: IllegalCommand records a word that decodes to
Illegal, InvalidSource a REQUEST of `src` 5 to 7 (60_exceptions.md R160). -/
def Fault.agrees : Fault → Prop
  | .illegalCommand w => ∃ why, decode w = .illegal why
  | .invalidSource w => ∃ src : BitVec 3, decode w = .command (.request src) ∧ 4 < src.toNat

/-- What a response says agrees with the state the command left (40_arbiter.md R102, R106): a wake
signal means `en` false, a request pending, `pend` cleared, and no delivery or read value; a delivery
means the vector of a source whose flag is now clear and which is unmasked, `en` true, `pend` cleared,
and no read value. -/
def Response.agrees (r : Response) (s : State) : Prop :=
  (r.wake = true → s.en = false ∧ s.req ≠ 0#5 ∧ s.pend = false ∧ r.deliver = none ∧ r.rdata = none) ∧
  (∀ v, r.deliver = some v →
    s.en = true ∧ s.pend = false ∧ r.rdata = none ∧
    ∃ i : Source, v = i.vec ∧ flag s.req i = false ∧ flag s.msk i = false)

/-- The invariant of the whole machine: the recorded fault and the last response agree with the rest of
the state. -/
structure State.Consistent (s : State) : Prop where
  fault_agrees : ∀ f, s.faulted = some f → f.agrees
  response_agrees : ∀ r, s.resp = some r → r.agrees s

end Sys2Proof.Machine
end

