-- ==== Sys2Proof/Certificates/Slice0/Obligations.lean ====
section
/-! DEFINITION. The statements about the model, one `def Obligations.<Name> : Prop` each. -/

open Sys2Proof Sys2Proof.Machine

/-! ### Reset -/

/-- 10_state.md R30: after reset no request is pending, so the request register reads 0xE0. -/
def Obligations.ResetHasNoRequests : Prop :=
  ∀ mask : FlagFile,
    (∀ i, flag (State.resetWith mask).req i = false) ∧
    exec .rdreq (State.resetWith mask) =
      .next ((State.resetWith mask).respond { rdata := some 0xE0#8 })

/-- 70_reset_and_hazards.md R190 and R191, for every `RESET_MASK`: the values of `en`, `pend`, `msk` and
the fault mark are the spec's decisions D6, D7, D8 and D11 (logs 6 and 7). -/
def Obligations.ResetIsDisabledAndUnfaulted : Prop :=
  (∀ mask : FlagFile,
    (State.resetWith mask).en = false ∧ (State.resetWith mask).pend = false ∧
    (∀ i, flag (State.resetWith mask).msk i = flag mask i) ∧
    (State.resetWith mask).faulted = none ∧ (State.resetWith mask).resp = none ∧
    exec .rdmsk (State.resetWith mask) =
      .next ((State.resetWith mask).respond { rdata := some (~~~(mask.setWidth 8) &&& 0x1F#8) })) ∧
  State.reset = State.resetWith 0b11111#5

/-! ### The step -/

/-- The host's next word runs as the command it decodes to (00_scope.md R8, 30_encoding.md R70). The
commands still to apply are the model's own field (DESIGN CHOICE, log 1). -/
def Obligations.StepRunsDecodedCommand : Prop :=
  ∀ (s : State) (w : Word) (rest : List Word) (i : Instr),
    s.faulted = none → s.cmds = w :: rest → decode w = .command i →
    step s = exec i { s with cmds := rest }

/-- A table row's word placed as the host's next command runs as the command the decoder reads from it
(the model's own placing: DESIGN CHOICE, log 11). -/
def Obligations.PlacedWordRunsNext : Prop :=
  ∀ (s : State) (nbits w : Nat) (i : Instr),
    s.faulted = none → decodeTableWord nbits w = some i →
    step (s.withFetchWord nbits w) = exec i s

/-- 60_exceptions.md R162 (the spec's decisions D3 and D11): an Illegal word sets the mark, records the
word and changes none of the twelve bits. That the mark is entered as a next state is DEDUCED, log 3. -/
def Obligations.IllegalWordRaisesFault : Prop :=
  ∀ (s : State) (w : Word) (rest : List Word) (why : Illegal),
    s.faulted = none → s.cmds = w :: rest → decode w = .illegal why →
    ∃ t, step s = .next t ∧ t.faulted = some (.illegalCommand w) ∧
      t.en = s.en ∧ t.pend = s.pend ∧ t.req = s.req ∧ t.msk = s.msk

/-- 60_exceptions.md R161 (decision D11): a faulted model takes no further step; it stops with the fault
it recorded (as an outcome of `step`: DEDUCED, log 3). -/
def Obligations.FaultedModelTakesNoStep : Prop :=
  ∀ (s : State) (f : Fault), s.faulted = some f → step s = .fault f

/-- 60_exceptions.md R177: with no command applied the block does not move (as a step that changes
nothing: DEDUCED, log 2). -/
def Obligations.NoCommandNoMove : Prop :=
  ∀ s : State, s.faulted = none → s.cmds = [] → step s = .next s

/-- 60_exceptions.md R160 and R161 (decisions D3, D5, D11): no step is refused, a step stops only on a
fault already raised, and a step that raises one was given a word that breaks the contract, recorded it
and changed none of the twelve bits. That a fault is entered as a next state and is the outcome of each
later step, and that REQUEST records its own encoding, is DEDUCED, log 3. -/
def Obligations.FaultsComeFromBadWordsOnly : Prop :=
  ∀ s : State,
    (∀ r, step s ≠ .refused r) ∧
    (∀ f, step s = .fault f ↔ s.faulted = some f) ∧
    ∀ (t : State) (f : Fault), s.faulted = none → step s = .next t → t.faulted = some f →
      ∃ rest, s.cmds = f.word :: rest ∧ legalWord f.word = false ∧
        t.en = s.en ∧ t.pend = s.pend ∧ t.req = s.req ∧ t.msk = s.msk

/-! ### Encoding -/

/-- Decoding the word of any command gives that command back, every operand at every value (30_encoding.md
R72 and R77, the spec's decision D2). -/
def Obligations.DecodeOfEncode : Prop := ∀ i : Instr, decode (encode i) = .command i

/-- A word that decodes is the encoding of its command: each command has exactly one word (30_encoding.md
R80, decisions D2 and D16). -/
def Obligations.EncodeOfDecode : Prop :=
  ∀ (w : Word) (i : Instr), decode w = .command i → encode i = w

/-- 30_encoding.md R72 (decision D2): the decoder agrees with the match and mask columns. A word that
decodes selects the one row of its operation, and an Illegal word selects none. -/
def Obligations.OpcodeTableMatchesDecoder : Prop :=
  ∀ w : Word,
    (∀ i, decode w = .command i → (opcodeTable.filter (·.selects w)).map (·.op) = [i.op]) ∧
    (∀ why, decode w = .illegal why → opcodeTable.filter (·.selects w) = [])

/-- 30_encoding.md R76 (decision D3): opcodes 0x0 and 0xA to 0xF, and only those, are reserved. -/
def Obligations.ReservedOpcodesAreIllegal : Prop :=
  ∀ w : Word,
    decode w = .illegal .reservedOpcode ↔ (w.toNat / 4096 = 0 ∨ 10 ≤ w.toNat / 4096)

/-- 30_encoding.md R75 (decision D3): bit 11, and every field the operation does not use, must be zero. -/
def Obligations.MustBeZeroBitsAreIllegal : Prop :=
  ∀ w : Word,
    (w.getLsbD 11 = true → ∃ why, decode w = .illegal why) ∧
    (w &&& 0x0700#16 ≠ 0#16 → w >>> 12 ≠ 0x1#16 → ∃ why, decode w = .illegal why) ∧
    (w &&& 0x00FF#16 ≠ 0#16 → w >>> 12 ≠ 0x7#16 → w >>> 12 ≠ 0x9#16 →
      ∃ why, decode w = .illegal why)

/-- Words written out from 30_encoding.md R72's bit patterns and 95_test_vectors.md L2-f decode to the
commands they stand for. -/
def Obligations.SampleWordsDecode : Prop :=
  decode 0b0001001000000000#16 = .command (.request 2#3) ∧
  decode 0b0001010100000000#16 = .command (.request 5#3) ∧
  decode 0b0011000000000000#16 = .command .enable ∧
  decode 0b0111000011111111#16 = .command (.wrreq 0xFF#8) ∧
  decode 0b1001000010101011#16 = .command (.wrmsk 0xAB#8) ∧
  decode 0b0000000000000000#16 = .illegal .reservedOpcode ∧
  decode 0b0010100000000000#16 = .illegal .mustBeZero

/-- 30_encoding.md R79 (decision D16): the written form of a command assembles to that command, in
either case of letters and with a comment after it. That hex digits may be of either case is DESIGN
CHOICE, log 12. -/
def Obligations.AssemblerReadsEachCommand : Prop :=
  ∀ (i : Instr) (note : List Char),
    assembleLine (writeLine i) = some [i] ∧
    assembleLine ((writeLine i).map Char.toLower) = some [i] ∧
    assembleLine (writeLine i ++ ';' :: note) = some [i]

/-- 30_encoding.md R79 and R80 (decision D16): a list of commands written one to a line assembles to
their words in order, each mnemonic exactly one word. -/
def Obligations.AssemblerKeepsOrder : Prop :=
  ∀ is : List Instr, assembleLines (is.map writeLine) = some (is.map encode)

/-! ### The sources and the priority encoder -/

/-- 10_state.md R26: the rank and the vector of each source, with its index. -/
def Obligations.SourceConstants : Prop :=
  Source.all.map (fun i => (i, i.index, i.rank, i.vec)) =
    [ (.vblank, 0, 1, 0x40#8), (.stat, 1, 2, 0x48#8), (.timer, 2, 3, 0x50#8),
      (.serial, 3, 4, 0x58#8), (.joypad, 4, 5, 0x60#8) ]

/-- 10_state.md R27: one index serves as the bit in both registers, as rank less one and as the place in
the scan; the vectors are 0x40 + 8 i (that clause is the spec's own derivation). -/
def Obligations.OneIndexServesEveryPurpose : Prop :=
  ∀ (s : State) (i : Source),
    (∃ b, exec .rdreq s = .next (s.respond { rdata := some b }) ∧
      b.getLsbD i.index = flag s.req i) ∧
    (∃ b, exec .rdmsk s = .next (s.respond { rdata := some b }) ∧
      b.getLsbD i.index = !flag s.msk i) ∧
    i.rank = i.index + 1 ∧ Source.all[i.index]? = some i ∧ i.vec = BitVec.ofNat 8 (0x40 + 8 * i.index)

/-- 40_arbiter.md R100: the first source in priority order that requests and is unmasked wins; a masked
source neither wins nor blocks a lower one. (That the answer is none just when nothing requests unmasked
is also the spec's own derivation there.) -/
def Obligations.EncoderPicksFirstUnmasked : Prop :=
  ∀ reqv mskv : FlagFile,
    (∀ i, select reqv mskv = some i ↔ Wins reqv mskv i) ∧
    (select reqv mskv = none ↔ NoneWins reqv mskv)

/-- 40_arbiter.md R100's own derivation: the answer is the count of trailing zeros of `reqv & ~mskv`,
and none just when that is 0. -/
def Obligations.EncoderCountsTrailingZeros : Prop :=
  ∀ reqv mskv : FlagFile,
    (select reqv mskv = none ↔ reqv &&& ~~~mskv = 0#5) ∧
    ∀ i, select reqv mskv = some i ↔
      (reqv &&& ~~~mskv).toNat % 2 ^ (i.index + 1) = 2 ^ i.index

/-! ### Flush -/

/-- 40_arbiter.md R103, the five cases; the word is the spec's decision D2. -/
def Obligations.FlushFiveCases : Prop :=
  decode 0x2000#16 = .command .flush ∧
  ∀ s : State,
    (s.en = false → s.req = 0#5 →
      exec .flush s = .next { s with pend := false, resp := some {} }) ∧
    (s.en = false → s.req ≠ 0#5 →
      exec .flush s = .next { s with pend := false, resp := some { wake := true } }) ∧
    (s.en = true → NoneWins s.req s.msk →
      exec .flush s = .next { s with pend := false, resp := some {} }) ∧
    ∀ i, s.en = true → Wins s.req s.msk i →
      exec .flush s = .next { s with
        pend := false
        req := s.req &&& ~~~(1#5 <<< i.index)
        resp := some { deliver := some i.vec } }

/-- 40_arbiter.md R104: one flush delivers at most one source, every other request flag keeps its value,
and sources ranked below the winner are not examined. -/
def Obligations.FlushDeliversAtMostOne : Prop :=
  ∀ s : State,
    (((doFlush s).2.deliver = none ∧ (doFlush s).1.req = s.req) ∨
      ∃ i, (doFlush s).2.deliver = some i.vec ∧
        flag s.req i = true ∧ flag (doFlush s).1.req i = false ∧
        ∀ j, j ≠ i → flag (doFlush s).1.req j = flag s.req j) ∧
    ∀ (i : Source) (s' : State), (doFlush s).2.deliver = some i.vec → s'.en = s.en →
      (∀ j : Source, j.rank ≤ i.rank → flag s'.req j = flag s.req j ∧ flag s'.msk j = flag s.msk j) →
      (doFlush s').2.deliver = some i.vec

/-- 40_arbiter.md R105: delivery does not change `en`, and a FLUSH applied again before DISABLE delivers
the next unmasked pending source too. -/
def Obligations.DeliveryLeavesEnableSet : Prop :=
  (∀ s : State, (doFlush s).1.en = s.en) ∧
  ∀ (s : State) (i j : Source), s.en = true → Wins s.req s.msk i →
    Wins (s.req &&& ~~~(1#5 <<< i.index)) s.msk j →
    ∃ t u, exec .flush s = .next t ∧ t.resp = some { deliver := some i.vec } ∧
      exec .flush t = .next u ∧ u.resp = some { deliver := some j.vec } ∧ u.en = true

/-- 40_arbiter.md R106: the wake signal is exactly `en` false with a request pending, seen before the
flush changes anything; whether a delivery happened is told by `deliver` alone. -/
def Obligations.WakeSignalExact : Prop :=
  ∀ s : State, ∃ t r, exec .flush s = .next t ∧ t.resp = some r ∧
    (r.wake = true ↔ s.en = false ∧ ∃ i, flag s.req i = true) ∧
    (r.deliver.isSome = true ↔ s.en = true ∧ ∃ i, flag s.req i = true ∧ flag s.msk i = false)

/-- The one flush procedure of 40_arbiter.md R102 serves all three: ENABLE acts as FLUSH after the latch
is set (as FLUSH itself while it is set, 41_global_enable.md R122), and REQUEST with `en` true acts as
FLUSH after its flag is set. -/
def Obligations.FlushSharedByRequestAndEnable : Prop :=
  ∀ s : State,
    exec .enable s = exec .flush { s with en := true } ∧
    (s.en = true → exec .enable s = exec .flush s) ∧
    ∀ (src : BitVec 3) (i : Source), src.toNat = i.index → s.en = true →
      exec (.request src) s = exec .flush { s with req := s.req ||| 1#5 <<< i.index }

/-- With `en` true, five flushes deliver every unmasked request and leave just the masked ones (from
40_arbiter.md R104 and R105). -/
def Obligations.FiveFlushesDrain : Prop :=
  ∀ s : State, s.en = true →
    ((fun u => (doFlush u).1)^[5] s).req = s.req &&& s.msk

/-! ### REQUEST -/

/-- REQUEST as 40_arbiter.md section 4 writes it. The word is the spec's decision D2, the fault of `src` 5
to 7 its decisions D5 and D11 (60_exceptions.md R160, R161, R163); that the mark is entered as a next
state and that the recorded word is the command's own encoding is DEDUCED, log 3. -/
def Obligations.RequestEffect : Prop :=
  ∀ (s : State) (src : BitVec 3),
    decode (0x1000#16 ||| src.setWidth 16 <<< 8) = .command (.request src) ∧
    (4 < src.toNat →
      ∃ t, exec (.request src) s = .next t ∧
        t.faulted = some (.invalidSource (0x1000#16 ||| src.setWidth 16 <<< 8)) ∧
        t.en = s.en ∧ t.pend = s.pend ∧ t.req = s.req ∧ t.msk = s.msk) ∧
    ∀ i : Source, src.toNat = i.index →
      (s.en = false → exec (.request src) s =
        .next { s with req := s.req ||| 1#5 <<< i.index, resp := some {} }) ∧
      (s.en = true → NoneWins (s.req ||| 1#5 <<< i.index) s.msk → exec (.request src) s =
        .next { s with req := s.req ||| 1#5 <<< i.index, pend := false, resp := some {} }) ∧
      ∀ j, s.en = true → Wins (s.req ||| 1#5 <<< i.index) s.msk j → exec (.request src) s =
        .next { s with
          req := (s.req ||| 1#5 <<< i.index) &&& ~~~(1#5 <<< j.index)
          pend := false
          resp := some { deliver := some j.vec } }

/-- 40_arbiter.md R108 and 41_global_enable.md R121, the spec's own derivations: a flush nested in
REQUEST or ENABLE never wakes. -/
def Obligations.NestedFlushNeverWakes : Prop :=
  ∀ (s t : State) (r : Response), t.resp = some r →
    (∀ src, exec (.request src) s = .next t → r.wake = false) ∧
    (exec .enable s = .next t → r.wake = false)

/-- 60_exceptions.md R178, the spec's own derivation: while `en` is false a duplicate REQUEST changes
nothing, and the delivery of the source clears the one flag both left. -/
def Obligations.DuplicateRequestMerges : Prop :=
  ∀ (s : State) (src : BitVec 3) (i : Source), src.toNat = i.index → s.en = false →
    ∃ t, exec (.request src) s = .next t ∧ exec (.request src) t = .next t ∧
      ∃ u, exec .enable t = .next u ∧
        (u.resp = some { deliver := some i.vec } → flag u.req i = false)

/-- 60_exceptions.md R167, the spec's own derivation: with `en` false the order of two REQUESTs does not
matter; with `en` true and nothing deliverable pending, an unmasked REQUEST is delivered at once. -/
def Obligations.ArrivalOrderMattersOnlyEnabled : Prop :=
  ∀ (s : State) (a : BitVec 3) (i : Source), a.toNat = i.index →
    (∀ (b : BitVec 3) (j : Source), b.toNat = j.index → s.en = false →
      ∃ t u v, exec (.request a) s = .next t ∧ exec (.request b) t = .next u ∧
        exec (.request b) s = .next v ∧ exec (.request a) v = .next u) ∧
    (s.en = true → flag s.msk i = false → NoneWins s.req s.msk →
      ∃ t, exec (.request a) s = .next t ∧ t.resp = some { deliver := some i.vec } ∧
        t.req = s.req)

/-! ### The global enable -/

/-- 41_global_enable.md R121; the word is the spec's decision D2. -/
def Obligations.EnableEffect : Prop :=
  decode 0x3000#16 = .command .enable ∧
  ∀ s : State,
    (NoneWins s.req s.msk →
      exec .enable s = .next { s with en := true, pend := false, resp := some {} }) ∧
    ∀ i, Wins s.req s.msk i →
      exec .enable s = .next { s with
        en := true
        pend := false
        req := s.req &&& ~~~(1#5 <<< i.index)
        resp := some { deliver := some i.vec } }

/-- 41_global_enable.md R123; the word is the spec's decision D2. -/
def Obligations.DisableEffect : Prop :=
  decode 0x4000#16 = .command .disable ∧
  ∀ s : State, exec .disable s = .next { s with en := false, resp := some {} }

/-- 41_global_enable.md R125; the word is the spec's decision D2, the 8-bit form its decision D9. -/
def Obligations.RdpendEffect : Prop :=
  decode 0x5000#16 = .command .rdpend ∧
  ∀ s : State,
    (s.pend = true → exec .rdpend s = .next { s with resp := some { rdata := some 0x01#8 } }) ∧
    (s.pend = false → exec .rdpend s = .next { s with resp := some { rdata := some 0x00#8 } })

/-- 10_state.md R36, the spec's own derivation: after a flush-performing command `pend` is false and
RDPEND returns 0x00. -/
def Obligations.FlushingCommandsClearPend : Prop :=
  ∀ (s : State) (i : Instr), performsFlush i s = true →
    ∃ t, exec i s = .next t ∧ t.pend = false ∧
      exec .rdpend t = .next { t with resp := some { rdata := some 0x00#8 } }

/-! ### The registers -/

/-- 42_registers.md R141; the word is the spec's decision D2. -/
def Obligations.RdreqEffect : Prop :=
  decode 0x6000#16 = .command .rdreq ∧
  ∀ s : State, ∃ b : Byte,
    exec .rdreq s = .next { s with resp := some { rdata := some b } } ∧
    (∀ i : Source, b.getLsbD i.index = flag s.req i) ∧
    b.getLsbD 5 = true ∧ b.getLsbD 6 = true ∧ b.getLsbD 7 = true

/-- 42_registers.md R143; the word is the spec's decision D2. -/
def Obligations.WrreqEffect : Prop :=
  ∀ data : Byte,
    decode (0x7000#16 ||| data.setWidth 16) = .command (.wrreq data) ∧
    ∀ s : State, ∃ t, exec (.wrreq data) s = .next t ∧
      (∀ i : Source, flag t.req i = data.getLsbD i.index) ∧
      (s.en = true → data &&& 0x1F#8 ≠ 0#8 → t.pend = true) ∧
      (s.en = false ∨ data &&& 0x1F#8 = 0#8 → t.pend = s.pend) ∧
      t.resp = some {} ∧
      t = { s with req := t.req, pend := t.pend, resp := t.resp }

/-- 42_registers.md R146; the word is the spec's decision D2. -/
def Obligations.RdmskEffect : Prop :=
  decode 0x8000#16 = .command .rdmsk ∧
  ∀ s : State, ∃ b : Byte,
    exec .rdmsk s = .next { s with resp := some { rdata := some b } } ∧
    (∀ i : Source, b.getLsbD i.index = !flag s.msk i) ∧
    b.getLsbD 5 = false ∧ b.getLsbD 6 = false ∧ b.getLsbD 7 = false

/-- WRMSK as 42_registers.md section 3 writes it; the word is the spec's decision D2, and that bits 7:5 have
no effect and read back as 0, with the value RDMSK returns afterwards, its own derivation. -/
def Obligations.WrmskEffect : Prop :=
  ∀ data : Byte,
    decode (0x9000#16 ||| data.setWidth 16) = .command (.wrmsk data) ∧
    ∀ s : State, ∃ t, exec (.wrmsk data) s = .next t ∧
      (∀ i : Source, flag t.msk i = !data.getLsbD i.index) ∧
      t.resp = some {} ∧
      t = { s with msk := t.msk, resp := t.resp } ∧
      exec .rdmsk t = .next { t with resp := some { rdata := some (data &&& 0x1F#8) } }

/-- 42_registers.md R149, the spec's own derivation: what a read returns after a write; the mask half
follows conflict C3. -/
def Obligations.RegisterRoundTrip : Prop :=
  ∀ (s : State) (x : Byte),
    (∃ t, exec (.wrreq x) s = .next t ∧
      exec .rdreq t = .next { t with resp := some { rdata := some ((x &&& 0x1F#8) ||| 0xE0#8) } }) ∧
    (∃ t, exec (.wrmsk x) s = .next t ∧
      exec .rdmsk t = .next { t with resp := some { rdata := some (x &&& 0x1F#8) } })

/-- 42_registers.md R144: WRREQ performs no flush; what it posts is delivered by the next flush, be it a
FLUSH, a REQUEST's nested flush or an ENABLE. -/
def Obligations.PostedRequestWaitsForFlush : Prop :=
  ∀ (s : State) (x : Byte), ∃ t, exec (.wrreq x) s = .next t ∧ t.resp = some {} ∧
    (∀ i : Source, flag t.req i = x.getLsbD i.index) ∧
    (∀ i, s.en = true → Wins t.req s.msk i →
      ∃ u, exec .flush t = .next u ∧ u.resp = some { deliver := some i.vec }) ∧
    (∀ i, Wins t.req s.msk i →
      ∃ u, exec .enable t = .next u ∧ u.resp = some { deliver := some i.vec }) ∧
    ∀ (src : BitVec 3) (k i : Source), src.toNat = k.index → s.en = true →
      Wins (t.req ||| 1#5 <<< k.index) s.msk i →
      ∃ u, exec (.request src) t = .next u ∧ u.resp = some { deliver := some i.vec }

/-- 42_registers.md R148, the spec's own derivation: WRMSK delivers nothing and leaves `pend` and every
request; what it unmasks is delivered by the next flush. -/
def Obligations.UnmaskingWaitsForFlush : Prop :=
  ∀ (s : State) (y : Byte), ∃ t, exec (.wrmsk y) s = .next t ∧ t.resp = some {} ∧
    t.pend = s.pend ∧ t.req = s.req ∧
    ∀ i, s.en = true → Wins s.req (~~~(y.setWidth 5)) i →
      ∃ u, exec .flush t = .next u ∧ u.resp = some { deliver := some i.vec }

/-- 42_registers.md R142 and 20_memory.md R56, the spec's own derivations: a read changes nothing but
the response, and repeated reads answer the same; writing the same value again changes nothing. -/
def Obligations.ReadsAndRewritesSettle : Prop :=
  ∀ s : State,
    (∀ i ∈ [Instr.rdpend, .rdreq, .rdmsk],
      ∃ r, exec i s = .next { s with resp := some r } ∧
        exec i { s with resp := some r } = .next { s with resp := some r }) ∧
    ∀ (x : Byte), ∀ i ∈ [Instr.wrreq x, .wrmsk x],
      ∃ t, exec i s = .next t ∧ exec i t = .next t

/-! ### Who writes each piece of state, over every step -/

/-- The latch of 10_state.md R21 as the two macro-states of 41_global_enable.md R120: only ENABLE moves to
ENABLED, only DISABLE moves to DISABLED, and no register view reads `en`. That reset enters DISABLED is the
spec's decision D7 (log 7). R21's last sentence, that `en` shows only through a flush, is left out: by
42_registers.md R143 a WRREQ and an RDPEND show it too. -/
def Obligations.OnlyEnableAndDisableMoveTheLatch : Prop :=
  (∀ s t : State, step s = .next t → t.macroState ≠ s.macroState →
    (nextCommand s = some .enable ∧ t.macroState = .enabled) ∨
    (nextCommand s = some .disable ∧ t.macroState = .disabled)) ∧
  (∀ s : State, s.faulted = none → nextCommand s = some .enable →
    ∃ t, step s = .next t ∧ t.macroState = .enabled) ∧
  (∀ s : State, s.faulted = none → nextCommand s = some .disable →
    ∃ t, step s = .next t ∧ t.macroState = .disabled) ∧
  (∀ mask, (State.resetWith mask).macroState = .disabled) ∧
  ∀ (s : State) (b : Bool), ∀ i ∈ [Instr.rdpend, .rdreq, .rdmsk],
    ∃ r, exec i s = .next { s with resp := some r } ∧
      exec i { s with en := b } = .next { s with en := b, resp := some r }

/-- 10_state.md R22: WRREQ sets `pend` while `en` is true and bits 4:0 are not all zero, every flush
clears it, and nothing else writes it. Reset's value is the spec's decision D8. -/
def Obligations.PendWriters : Prop :=
  (∀ s t : State, step s = .next t → t.pend ≠ s.pend →
    (t.pend = true ∧ s.en = true ∧
      ∃ x, nextCommand s = some (.wrreq x) ∧ x &&& 0x1F#8 ≠ 0#8) ∨
    (t.pend = false ∧ nextPerformsFlush s = true)) ∧
  (∀ (s : State) (x : Byte), s.faulted = none → nextCommand s = some (.wrreq x) →
    s.en = true → x &&& 0x1F#8 ≠ 0#8 → ∃ t, step s = .next t ∧ t.pend = true) ∧
  (∀ s : State, s.faulted = none → nextPerformsFlush s = true →
    ∃ t, step s = .next t ∧ t.pend = false) ∧
  ∀ mask, (State.resetWith mask).pend = false

/-- 10_state.md R23: a request flag, once set, stays set until it is delivered or overwritten by a
register write, and is set only by REQUEST or a register write. REQUEST sets it (with `en` true its
nested flush may deliver it at once), delivery clears it, a register write writes it, reset clears it. -/
def Obligations.RequestFlagWriters : Prop :=
  (∀ (s t : State) (k : Source), step s = .next t →
    (flag s.req k = true → flag t.req k = false →
      (nextPerformsFlush s = true ∧ t.resp = some { deliver := some k.vec }) ∨
      ∃ x, nextCommand s = some (.wrreq x) ∧ x.getLsbD k.index = false) ∧
    (flag s.req k = false → flag t.req k = true →
      (∃ src, nextCommand s = some (.request src) ∧ src.toNat = k.index) ∨
      ∃ x, nextCommand s = some (.wrreq x) ∧ x.getLsbD k.index = true)) ∧
  (∀ (s : State) (src : BitVec 3) (k : Source), s.faulted = none → s.en = false →
    nextCommand s = some (.request src) → src.toNat = k.index →
    ∃ t, step s = .next t ∧ flag t.req k = true) ∧
  (∀ (s t : State) (k : Source), s.faulted = none → nextPerformsFlush s = true →
    step s = .next t → t.resp = some { deliver := some k.vec } → flag t.req k = false) ∧
  (∀ (s : State) (x : Byte) (k : Source), s.faulted = none → nextCommand s = some (.wrreq x) →
    ∃ t, step s = .next t ∧ flag t.req k = x.getLsbD k.index) ∧
  ∀ (mask : FlagFile) (k : Source), flag (State.resetWith mask).req k = false

/-- 10_state.md R24: only WRMSK writes the mask flags, from the inverted bits of its value. Reset's
value is the parameter of the spec's decision D6. -/
def Obligations.MaskFlagWriters : Prop :=
  (∀ s t : State, step s = .next t → t.msk ≠ s.msk →
    ∃ x, nextCommand s = some (.wrmsk x) ∧ ∀ i : Source, flag t.msk i = !x.getLsbD i.index) ∧
  (∀ (s : State) (x : Byte), s.faulted = none → nextCommand s = some (.wrmsk x) →
    ∃ t, step s = .next t ∧ ∀ i : Source, flag t.msk i = !x.getLsbD i.index) ∧
  ∀ mask, (State.resetWith mask).msk = mask

/-- The frame of every command: what each leaves unchanged when it answers a next state (the "State
written" lines of 40_arbiter.md, 41_global_enable.md and 42_registers.md). -/
def Obligations.CommandFrame : Prop :=
  ∀ (i : Instr) (s t : State), exec i s = .next t →
    t.cmds = s.cmds ∧
    (i.wellFormed = true → t.faulted = s.faulted) ∧
    (i ≠ .enable → i ≠ .disable → t.en = s.en) ∧
    ((∀ x, i ≠ .wrmsk x) → t.msk = s.msk) ∧
    ((∀ x, i ≠ .wrreq x) → performsFlush i s = false → t.pend = s.pend) ∧
    ((∀ x, i ≠ .wrreq x) → (∀ src, i ≠ .request src) → performsFlush i s = false → t.req = s.req) ∧
    ((∀ x, i ≠ .wrreq x) → ∀ k : Source, (∀ src, i = .request src → src.toNat ≠ k.index) →
      t.resp ≠ some { deliver := some k.vec } → flag t.req k = flag s.req k)

/-- 10_state.md R34 and 60_exceptions.md R160, the spec's own derivation: in every state every command
answers a next state; a well-formed one raises no fault and returns a response. That an ill-formed one
marks its own encoding in a next state is DEDUCED, log 3; that a command's meaning does not look at the
fault mark, so that a faulted state is no exception here, is DEDUCED, log 16. -/
def Obligations.EveryCommandAnswers : Prop :=
  ∀ (i : Instr) (s : State), ∃ t, exec i s = .next t ∧
    (i.wellFormed = true → t.faulted = s.faulted ∧ ∃ r, t.resp = some r) ∧
    (i.wellFormed = false → t.faulted = some (.invalidSource (encode i)))

/-- 10_state.md R35: `pend` is read by RDPEND alone. Any other command answers the same, and leaves the
same state but for `pend`, whatever `pend` was. -/
def Obligations.PendIsHidden : Prop :=
  ∀ (i : Instr) (s : State) (b : Bool), i ≠ .rdpend →
    ∃ t c, exec i s = .next t ∧ exec i { s with pend := b } = .next { t with pend := c }

/-! ### Invariant and runs -/

/-- The recorded fault agrees with the decoder and the last response with the state, after every step
from any state where they do (60_exceptions.md R160; 40_arbiter.md R102 and R106). -/
def Obligations.ConsistencyKeptByEveryStep : Prop :=
  ∀ s t : State, s.Consistent → step s = .next t → t.Consistent

/-- The invariant holds after reset, for every `RESET_MASK`. -/
def Obligations.ResetIsConsistent : Prop :=
  ∀ mask : FlagFile, (State.resetWith mask).Consistent

/-- 70_reset_and_hazards.md R195: DISABLE takes effect at once, and no flush performed after it delivers
until the next ENABLE, over a run of any length. -/
def Obligations.NoDeliveryUntilNextEnable : Prop :=
  ∀ s : State, s.faulted = none → nextCommand s = some .disable →
    ∃ t, step s = .next t ∧ t.en = false ∧
      ∀ (n : Nat) (u : State), (∀ w ∈ t.cmds.take n, decode w ≠ .command .enable) →
        core.run n t = .next u → u.en = false ∧ delivered u = false

/-- 60_exceptions.md R170 and R173 with the duty as the named premise HostDisablesOnDelivery (decision
D14, log 13): after a delivery, no command delivers again until the host applies an ENABLE. -/
def Obligations.DutyPreventsSecondDelivery : Prop :=
  ∀ (s u : State) (n : Nat), HostDisablesOnDelivery s → delivered s = true →
    0 < n → n ≤ s.cmds.length → (∀ w ∈ s.cmds.take n, decode w ≠ .command .enable) →
    core.run n s = .next u → delivered u = false

/-- 60_exceptions.md R160, R161 and R179: a run of legal words applies them all and ends well; a run
with a word that breaks the contract ends in a fault (that fault as the outcome of the step after it:
DEDUCED, log 3). -/
def Obligations.LegalRunsEndWellAndOthersFault : Prop :=
  ∀ s : State, s.faulted = none →
    ((∀ w ∈ s.cmds, legalWord w = true) →
      ∃ t, core.run s.cmds.length s = .next t ∧ successfulEnd t = true) ∧
    ((∃ w ∈ s.cmds, legalWord w = false) →
      ∃ f, core.run (s.cmds.length + 1) s = .fault f ∧ f.word ∈ s.cmds ∧ legalWord f.word = false)
end

