-- ==== Sys2Proof/Laws/Flags.lean ====
section
/-! SUPPORT. What the flag operations and the priority encoder do. -/

namespace Sys2Proof

theorem Source.mem_all (i : Source) : i ∈ Source.all := by cases i <;> decide

theorem Source.index_lt (i : Source) : i.index < 5 := by cases i <;> decide

theorem Source.index_injective {i j : Source} (h : i.index = j.index) : i = j := by
  revert h; cases i <;> cases j <;> decide

@[simp] theorem Source.ofIndex_index (i : Source) : Source.ofIndex i.index = some i := by
  cases i <;> decide

theorem Source.ofIndex_eq_some {n : Nat} {i : Source} : Source.ofIndex n = some i ↔ n = i.index := by
  constructor
  · intro h
    have hn : n < 5 := by
      by_contra hge
      have : Source.ofIndex n = none := by
        rw [Source.ofIndex, List.getElem?_eq_none_iff]
        exact Nat.not_lt.mp hge
      simp [this] at h
    revert h; interval_cases n <;> cases i <;> decide
  · rintro rfl; exact Source.ofIndex_index i

end Sys2Proof

namespace Sys2Proof.Machine

@[simp] theorem flag_setFlag_self (v : FlagFile) (i : Source) : flag (setFlag v i) i = true := by
  revert v; cases i <;> decide

theorem flag_setFlag_of_ne (v : FlagFile) {i j : Source} (h : j ≠ i) :
    flag (setFlag v i) j = flag v j := by
  revert h v; cases i <;> cases j <;> decide

@[simp] theorem flag_clearFlag_self (v : FlagFile) (i : Source) : flag (clearFlag v i) i = false := by
  revert v; cases i <;> decide

theorem flag_clearFlag_of_ne (v : FlagFile) {i j : Source} (h : j ≠ i) :
    flag (clearFlag v i) j = flag v j := by
  revert h v; cases i <;> cases j <;> decide

@[simp] theorem flag_unmasked (v m : FlagFile) (i : Source) :
    flag (unmasked v m) i = (flag v i && !flag m i) := by
  revert v m; cases i <;> decide

/-- Two flag files with the same five flags are equal. -/
theorem flagFile_ext {u v : FlagFile} (h : ∀ i, flag u i = flag v i) : u = v := by
  have key : ∀ u v : FlagFile, (∀ i ∈ Source.all, flag u i = flag v i) → u = v := by decide
  exact key u v fun i _ => h i

/-- The encoder's answer requests and is unmasked. -/
theorem flag_of_select {v m : FlagFile} {i : Source} (h : select v m = some i) :
    flag v i = true ∧ flag m i = false := by
  have := List.find?_some h
  simpa using this

end Sys2Proof.Machine
end

