-- ==== Sys2Proof/Laws/State.lean ====
section
/-! SUPPORT. One lemma for each field of State and each update of it, and what a fault writes. -/

namespace Sys2Proof.Machine

variable (s : State)

@[simp] theorem State.setEn_en (b : Bool) : (s.setEn b).en = b := rfl
@[simp] theorem State.setEn_pend (b : Bool) : (s.setEn b).pend = s.pend := rfl
@[simp] theorem State.setEn_req (b : Bool) : (s.setEn b).req = s.req := rfl
@[simp] theorem State.setEn_msk (b : Bool) : (s.setEn b).msk = s.msk := rfl
@[simp] theorem State.setEn_faulted (b : Bool) : (s.setEn b).faulted = s.faulted := rfl
@[simp] theorem State.setEn_resp (b : Bool) : (s.setEn b).resp = s.resp := rfl
@[simp] theorem State.setEn_cmds (b : Bool) : (s.setEn b).cmds = s.cmds := rfl

@[simp] theorem State.setPend_en (b : Bool) : (s.setPend b).en = s.en := rfl
@[simp] theorem State.setPend_pend (b : Bool) : (s.setPend b).pend = b := rfl
@[simp] theorem State.setPend_req (b : Bool) : (s.setPend b).req = s.req := rfl
@[simp] theorem State.setPend_msk (b : Bool) : (s.setPend b).msk = s.msk := rfl
@[simp] theorem State.setPend_faulted (b : Bool) : (s.setPend b).faulted = s.faulted := rfl
@[simp] theorem State.setPend_resp (b : Bool) : (s.setPend b).resp = s.resp := rfl
@[simp] theorem State.setPend_cmds (b : Bool) : (s.setPend b).cmds = s.cmds := rfl

@[simp] theorem State.setReqFlags_en (v : FlagFile) : (s.setReqFlags v).en = s.en := rfl
@[simp] theorem State.setReqFlags_pend (v : FlagFile) : (s.setReqFlags v).pend = s.pend := rfl
@[simp] theorem State.setReqFlags_req (v : FlagFile) : (s.setReqFlags v).req = v := rfl
@[simp] theorem State.setReqFlags_msk (v : FlagFile) : (s.setReqFlags v).msk = s.msk := rfl
@[simp] theorem State.setReqFlags_faulted (v : FlagFile) : (s.setReqFlags v).faulted = s.faulted := rfl
@[simp] theorem State.setReqFlags_resp (v : FlagFile) : (s.setReqFlags v).resp = s.resp := rfl
@[simp] theorem State.setReqFlags_cmds (v : FlagFile) : (s.setReqFlags v).cmds = s.cmds := rfl

@[simp] theorem State.setMskFlags_en (v : FlagFile) : (s.setMskFlags v).en = s.en := rfl
@[simp] theorem State.setMskFlags_pend (v : FlagFile) : (s.setMskFlags v).pend = s.pend := rfl
@[simp] theorem State.setMskFlags_req (v : FlagFile) : (s.setMskFlags v).req = s.req := rfl
@[simp] theorem State.setMskFlags_msk (v : FlagFile) : (s.setMskFlags v).msk = v := rfl
@[simp] theorem State.setMskFlags_faulted (v : FlagFile) : (s.setMskFlags v).faulted = s.faulted := rfl
@[simp] theorem State.setMskFlags_resp (v : FlagFile) : (s.setMskFlags v).resp = s.resp := rfl
@[simp] theorem State.setMskFlags_cmds (v : FlagFile) : (s.setMskFlags v).cmds = s.cmds := rfl

@[simp] theorem State.setCmds_en (ws : List Word) : (s.setCmds ws).en = s.en := rfl
@[simp] theorem State.setCmds_pend (ws : List Word) : (s.setCmds ws).pend = s.pend := rfl
@[simp] theorem State.setCmds_req (ws : List Word) : (s.setCmds ws).req = s.req := rfl
@[simp] theorem State.setCmds_msk (ws : List Word) : (s.setCmds ws).msk = s.msk := rfl
@[simp] theorem State.setCmds_faulted (ws : List Word) : (s.setCmds ws).faulted = s.faulted := rfl
@[simp] theorem State.setCmds_resp (ws : List Word) : (s.setCmds ws).resp = s.resp := rfl
@[simp] theorem State.setCmds_cmds (ws : List Word) : (s.setCmds ws).cmds = ws := rfl

@[simp] theorem State.respond_en (r : Response) : (s.respond r).en = s.en := rfl
@[simp] theorem State.respond_pend (r : Response) : (s.respond r).pend = s.pend := rfl
@[simp] theorem State.respond_req (r : Response) : (s.respond r).req = s.req := rfl
@[simp] theorem State.respond_msk (r : Response) : (s.respond r).msk = s.msk := rfl
@[simp] theorem State.respond_faulted (r : Response) : (s.respond r).faulted = s.faulted := rfl
@[simp] theorem State.respond_resp (r : Response) : (s.respond r).resp = some r := rfl
@[simp] theorem State.respond_cmds (r : Response) : (s.respond r).cmds = s.cmds := rfl

@[simp] theorem State.postRequest_en (i : Source) : (s.postRequest i).en = s.en := rfl
@[simp] theorem State.postRequest_pend (i : Source) : (s.postRequest i).pend = s.pend := rfl
@[simp] theorem State.postRequest_req (i : Source) : (s.postRequest i).req = setFlag s.req i := rfl
@[simp] theorem State.postRequest_msk (i : Source) : (s.postRequest i).msk = s.msk := rfl
@[simp] theorem State.postRequest_faulted (i : Source) : (s.postRequest i).faulted = s.faulted := rfl
@[simp] theorem State.postRequest_resp (i : Source) : (s.postRequest i).resp = s.resp := rfl
@[simp] theorem State.postRequest_cmds (i : Source) : (s.postRequest i).cmds = s.cmds := rfl

@[simp] theorem State.clearRequest_en (i : Source) : (s.clearRequest i).en = s.en := rfl
@[simp] theorem State.clearRequest_pend (i : Source) : (s.clearRequest i).pend = s.pend := rfl
@[simp] theorem State.clearRequest_req (i : Source) : (s.clearRequest i).req = clearFlag s.req i := rfl
@[simp] theorem State.clearRequest_msk (i : Source) : (s.clearRequest i).msk = s.msk := rfl
@[simp] theorem State.clearRequest_faulted (i : Source) : (s.clearRequest i).faulted = s.faulted := rfl
@[simp] theorem State.clearRequest_resp (i : Source) : (s.clearRequest i).resp = s.resp := rfl
@[simp] theorem State.clearRequest_cmds (i : Source) : (s.clearRequest i).cmds = s.cmds := rfl

@[simp] theorem State.pushCommand_en (w : Word) : (s.pushCommand w).en = s.en := rfl
@[simp] theorem State.pushCommand_pend (w : Word) : (s.pushCommand w).pend = s.pend := rfl
@[simp] theorem State.pushCommand_req (w : Word) : (s.pushCommand w).req = s.req := rfl
@[simp] theorem State.pushCommand_msk (w : Word) : (s.pushCommand w).msk = s.msk := rfl
@[simp] theorem State.pushCommand_faulted (w : Word) : (s.pushCommand w).faulted = s.faulted := rfl
@[simp] theorem State.pushCommand_resp (w : Word) : (s.pushCommand w).resp = s.resp := rfl
@[simp] theorem State.pushCommand_cmds (w : Word) : (s.pushCommand w).cmds = w :: s.cmds := rfl

@[simp] theorem raiseFault_en (f : Fault) : (raiseFault f s).en = s.en := rfl
@[simp] theorem raiseFault_pend (f : Fault) : (raiseFault f s).pend = s.pend := rfl
@[simp] theorem raiseFault_req (f : Fault) : (raiseFault f s).req = s.req := rfl
@[simp] theorem raiseFault_msk (f : Fault) : (raiseFault f s).msk = s.msk := rfl
@[simp] theorem raiseFault_faulted (f : Fault) : (raiseFault f s).faulted = some f := rfl
@[simp] theorem raiseFault_resp (f : Fault) : (raiseFault f s).resp = none := rfl
@[simp] theorem raiseFault_cmds (f : Fault) : (raiseFault f s).cmds = s.cmds := rfl

@[simp] theorem State.resetWith_en (mask : FlagFile) : (State.resetWith mask).en = false := rfl
@[simp] theorem State.resetWith_pend (mask : FlagFile) : (State.resetWith mask).pend = false := rfl
@[simp] theorem State.resetWith_req (mask : FlagFile) : (State.resetWith mask).req = 0#5 := rfl
@[simp] theorem State.resetWith_msk (mask : FlagFile) : (State.resetWith mask).msk = mask := rfl
@[simp] theorem State.resetWith_faulted (mask : FlagFile) : (State.resetWith mask).faulted = none := rfl
@[simp] theorem State.resetWith_resp (mask : FlagFile) : (State.resetWith mask).resp = none := rfl
@[simp] theorem State.resetWith_cmds (mask : FlagFile) : (State.resetWith mask).cmds = [] := rfl

end Sys2Proof.Machine
end

