-- ==== Sys2Proof/Laws/Ops.lean ====
section
/-! SUPPORT. What each shared operation can do, said once. -/

namespace Sys2Proof.Machine

variable {s t : State}

/-- Everything a flush can do: deliver a source, find none, or answer the wake signal. -/
theorem doFlush_cases (s : State) :
    (∃ i, s.en = true ∧ select s.req s.msk = some i ∧
      doFlush s = ((s.setPend false).clearRequest i, { deliver := some i.vec })) ∨
    (s.en = true ∧ select s.req s.msk = none ∧ doFlush s = (s.setPend false, {})) ∨
    (s.en = false ∧ doFlush s = (s.setPend false, { wake := anyRequest s.req })) := by
  unfold doFlush
  cases hen : s.en with
  | false => exact .inr (.inr ⟨rfl, rfl⟩)
  | true =>
    cases hsel : select s.req s.msk with
    | none => exact .inr (.inl ⟨rfl, rfl, rfl⟩)
    | some i => exact .inl ⟨i, rfl, rfl, rfl⟩

@[simp] theorem doFlush_en (s : State) : (doFlush s).1.en = s.en := by
  obtain ⟨_, _, _, h⟩ | ⟨_, _, h⟩ | ⟨_, h⟩ := doFlush_cases s <;> simp [h]

@[simp] theorem doFlush_pend (s : State) : (doFlush s).1.pend = false := by
  obtain ⟨_, _, _, h⟩ | ⟨_, _, h⟩ | ⟨_, h⟩ := doFlush_cases s <;> simp [h]

@[simp] theorem doFlush_msk (s : State) : (doFlush s).1.msk = s.msk := by
  obtain ⟨_, _, _, h⟩ | ⟨_, _, h⟩ | ⟨_, h⟩ := doFlush_cases s <;> simp [h]

@[simp] theorem doFlush_faulted (s : State) : (doFlush s).1.faulted = s.faulted := by
  obtain ⟨_, _, _, h⟩ | ⟨_, _, h⟩ | ⟨_, h⟩ := doFlush_cases s <;> simp [h]

@[simp] theorem doFlush_cmds (s : State) : (doFlush s).1.cmds = s.cmds := by
  obtain ⟨_, _, _, h⟩ | ⟨_, _, h⟩ | ⟨_, h⟩ := doFlush_cases s <;> simp [h]

@[simp] theorem doFlush_rdata (s : State) : (doFlush s).2.rdata = none := by
  obtain ⟨_, _, _, h⟩ | ⟨_, _, h⟩ | ⟨_, h⟩ := doFlush_cases s <;> simp [h]

@[simp] theorem flushAndRespond_en (s : State) : (flushAndRespond s).en = s.en := doFlush_en s

@[simp] theorem flushAndRespond_pend (s : State) : (flushAndRespond s).pend = false := doFlush_pend s

@[simp] theorem flushAndRespond_req (s : State) : (flushAndRespond s).req = (doFlush s).1.req := rfl

@[simp] theorem flushAndRespond_msk (s : State) : (flushAndRespond s).msk = s.msk := doFlush_msk s

@[simp] theorem flushAndRespond_faulted (s : State) : (flushAndRespond s).faulted = s.faulted :=
  doFlush_faulted s

@[simp] theorem flushAndRespond_resp (s : State) :
    (flushAndRespond s).resp = some (doFlush s).2 := rfl

@[simp] theorem flushAndRespond_cmds (s : State) : (flushAndRespond s).cmds = s.cmds := doFlush_cmds s

/-- Everything fetching can do. -/
theorem fetch_cases (s : State) :
    (s.cmds = [] ∧ fetch s = none) ∨
    ∃ w rest, s.cmds = w :: rest ∧ fetch s = some (w, s.setCmds rest) := by
  unfold fetch
  cases h : s.cmds with
  | nil => exact .inl ⟨rfl, rfl⟩
  | cons w rest => exact .inr ⟨w, rest, rfl, rfl⟩

/-- REQUEST's operand names the source with that index. -/
theorem srcOperand_eq_some {src : BitVec 3} {i : Source} :
    srcOperand src = some i ↔ src.toNat = i.index := Source.ofIndex_eq_some

/-- REQUEST's operand names no source just when it is above 4. -/
theorem srcOperand_eq_none {src : BitVec 3} : srcOperand src = none ↔ 4 < src.toNat := by
  revert src; decide

end Sys2Proof.Machine
end

