-- ==== Sys2Proof/Laws/PerInstr.lean ====
section
/-! SUPPORT. Per command: its word is selected by its own row of the opcode table, and by no other row
(30_encoding.md R72). -/

namespace Sys2Proof.Laws.TableRow

/-- The rows that select the command's word are those of its own operation, and there is one. -/
def Statement (i : Instr) : Prop :=
  (opcodeTable.filter (fun r => r.selects (encode i))).map (·.op) = [i.op]

theorem request (src : BitVec 3) : Statement (.request src) := by
  unfold Statement; revert src; decide

theorem flush : Statement .flush := by unfold Statement; decide

theorem enable : Statement .enable := by unfold Statement; decide

theorem disable : Statement .disable := by unfold Statement; decide

theorem rdpend : Statement .rdpend := by unfold Statement; decide

theorem rdreq : Statement .rdreq := by unfold Statement; decide

theorem wrreq (data : Byte) : Statement (.wrreq data) := by
  unfold Statement; revert data; decide

theorem rdmsk : Statement .rdmsk := by unfold Statement; decide

theorem wrmsk (data : Byte) : Statement (.wrmsk data) := by
  unfold Statement; revert data; decide

end Sys2Proof.Laws.TableRow
end

