-- ==== Sys2Proof/Laws/Step.lean ====
section
/-! SUPPORT. What REQUEST and one step can do, said once. -/

namespace Sys2Proof.Machine

/-- Everything REQUEST can do: the fault, a posted request, or a posted request and a flush. -/
theorem execRequest_cases (src : BitVec 3) (s : State) :
    (4 < src.toNat ∧
      execRequest src s = .next (raiseFault (.invalidSource (encode (.request src))) s)) ∨
    (∃ i, src.toNat = i.index ∧ s.en = false ∧
      execRequest src s = .next ((s.postRequest i).respond {})) ∨
    (∃ i, src.toNat = i.index ∧ s.en = true ∧
      execRequest src s = .next (flushAndRespond (s.postRequest i))) := by
  unfold execRequest
  cases h : srcOperand src with
  | none => exact .inl ⟨srcOperand_eq_none.mp h, rfl⟩
  | some i =>
    cases hen : s.en with
    | false => exact .inr (.inl ⟨i, srcOperand_eq_some.mp h, rfl, by simp [hen]⟩)
    | true => exact .inr (.inr ⟨i, srcOperand_eq_some.mp h, rfl, by simp [hen]⟩)

/-- Everything one step can do: stop with a fault already raised, stand still with no command, run the
decoded command, or raise IllegalCommand. -/
theorem step_cases (s : State) :
    (∃ f, s.faulted = some f ∧ step s = .fault f) ∨
    (s.faulted = none ∧ s.cmds = [] ∧ step s = .next s) ∨
    (∃ w rest i, s.faulted = none ∧ s.cmds = w :: rest ∧ decode w = .command i ∧
      step s = exec i (s.setCmds rest)) ∨
    (∃ w rest why, s.faulted = none ∧ s.cmds = w :: rest ∧ decode w = .illegal why ∧
      step s = .next (raiseFault (.illegalCommand w) (s.setCmds rest))) := by
  unfold step
  cases hf : s.faulted with
  | some f => exact .inl ⟨f, rfl, rfl⟩
  | none =>
    obtain ⟨hc, h⟩ | ⟨w, rest, hc, h⟩ := fetch_cases s
    · exact .inr (.inl ⟨rfl, hc, by simp only [h, idle]⟩)
    · cases hd : decode w with
      | command i => exact .inr (.inr (.inl ⟨w, rest, i, rfl, hc, hd, by simp only [h, hd]⟩))
      | illegal why => exact .inr (.inr (.inr ⟨w, rest, why, rfl, hc, hd, by simp only [h, hd]⟩))

end Sys2Proof.Machine
end

