-- ==== Sys2Proof/Laws/Safety.lean ====
section
/-! SUPPORT. What the host's duty asks of one step. -/

namespace Sys2Proof.Machine

/-- A step that applies the next command asks that it perform no flush while a DISABLE is owed, and asks
the same of the steps after it. -/
theorem dutyMet_succ_of_next {s t : State} (n : Nat) (owed : Bool) (h : step s = .next t) :
    dutyMet (n + 1) owed s =
      (!(owed && nextPerformsFlush s) && dutyMet n (owedAfter owed s t) t) := by
  simp only [dutyMet, h]
  cases owed && nextPerformsFlush s <;> rfl

/-- From a faulted state no command is applied, so the duty is met. -/
theorem dutyMet_of_faulted {s : State} {f : Fault} (n : Nat) (owed : Bool)
    (h : s.faulted = some f) : dutyMet n owed s = true := by
  cases n with
  | zero => rfl
  | succ n => simp only [dutyMet, step, h]

end Sys2Proof.Machine
end

