-- ==== Sys2Proof/Tests/Slice0.lean ====
section
/-! SUPPORT. The model's own tests. Expected results come from 95_test_vectors.md (the vector's id stands
in each comment) or are worked out by hand from the rule named; the witnesses show that each statement's
hypotheses can be met. -/

namespace Sys2Proof.Tests

open Sys2Proof.Machine

/-- The state `(en, pend, req, msk)` of 95_test_vectors.md. -/
def st (en pend : Bool) (req msk : FlagFile) : State :=
  { State.reset with en := en, pend := pend, req := req, msk := msk }

/-- A next state's `(en, pend, req, msk)`. -/
def bits : Host.Outcome State Fault Refusal → Option (Bool × Bool × FlagFile × FlagFile)
  | .next t => some (t.en, t.pend, t.req, t.msk)
  | .fault _ => none
  | .refused _ => none

/-- A next state's response `rdata / wake / deliver`. -/
def response : Host.Outcome State Fault Refusal → Option Response
  | .next t => t.resp
  | .fault _ => none
  | .refused _ => none

/-- A next state's fault mark. -/
def mark : Host.Outcome State Fault Refusal → Option Fault
  | .next t => t.faulted
  | .fault _ => none
  | .refused _ => none

/-! ### Well-formedness: the one check, with terms it refuses -/

theorem test_wellFormed_refuses_source_5 : (Instr.request 5#3).wellFormed = false := by decide

theorem test_wellFormed_refuses_source_7 : (Instr.request 7#3).wellFormed = false := by decide

theorem test_wellFormed_accepts_source_4 : (Instr.request 4#3).wellFormed = true := by decide

/-! ### Decoding: the words of 30_encoding.md R72, bit by bit, one for each constructor -/

theorem test_decode_request : decode 0b0001010000000000#16 = .command (.request 4#3) := by decide

theorem test_decode_flush : decode 0b0010000000000000#16 = .command .flush := by decide

theorem test_decode_enable : decode 0b0011000000000000#16 = .command .enable := by decide

theorem test_decode_disable : decode 0b0100000000000000#16 = .command .disable := by decide

theorem test_decode_rdpend : decode 0b0101000000000000#16 = .command .rdpend := by decide

theorem test_decode_rdreq : decode 0b0110000000000000#16 = .command .rdreq := by decide

theorem test_decode_wrreq : decode 0b0111000011100100#16 = .command (.wrreq 0xE4#8) := by decide

theorem test_decode_rdmsk : decode 0b1000000000000000#16 = .command .rdmsk := by decide

theorem test_decode_wrmsk : decode 0b1001000010101011#16 = .command (.wrmsk 0xAB#8) := by decide

/-- L2-f and Q9, Q10, P3, WR7, WM5: words that are Illegal. -/
theorem test_decode_illegal :
    [0x0000#16, 0xA000#16, 0xB123#16, 0xF000#16, 0xFFFF#16, 0x2800#16, 0x6001#16, 0x8100#16,
      0x1800#16, 0x1001#16, 0x5001#16, 0x7101#16, 0x9A00#16].map (fun w => (decode w).command?) =
    List.replicate 13 none := by decide

theorem test_decodeTableWord : decodeTableWord 16 0x1200 = some (.request 2#3) := by decide

/-- WM1, as the first command after reset. -/
theorem test_withFetchWord :
    bits (step (State.reset.withFetchWord 16 0x901F)) = some (false, false, 0#5, 0#5) := by decide

/-! ### Meanings -/

/-- Q5: a higher source already pending is delivered instead. -/
theorem test_request_delivers_higher :
    bits (exec (.request 4#3) (st true false 0b00001#5 0b00000#5)) =
      some (true, false, 0b10000#5, 0b00000#5) ∧
    response (exec (.request 4#3) (st true false 0b00001#5 0b00000#5)) =
      some { deliver := some 0x40#8 } := by decide

/-- Q6: while disabled, `pend` is untouched. -/
theorem test_request_disabled_keeps_pend :
    bits (exec (.request 0#3) (st false true 0b00000#5 0b00000#5)) =
      some (false, true, 0b00001#5, 0b00000#5) := by decide

/-- Q8: the fault is recorded and the twelve bits stay. -/
theorem test_step_invalidSource :
    mark (step ((st true false 0#5 0b11111#5).pushCommand 0x1700#16)) =
      some (.invalidSource 0x1700#16) ∧
    bits (step ((st true false 0#5 0b11111#5).pushCommand 0x1700#16)) =
      some (true, false, 0#5, 0b11111#5) := by decide

/-- F2: a masked request still wakes while disabled. -/
theorem test_flush_wakes_on_masked :
    bits (exec .flush (st false true 0b01000#5 0b11111#5)) =
      some (false, false, 0b01000#5, 0b11111#5) ∧
    response (exec .flush (st false true 0b01000#5 0b11111#5)) = some { wake := true } := by decide

/-- F5d: a masked source is skipped. -/
theorem test_flush_skips_masked :
    bits (exec .flush (st true false 0b11100#5 0b00100#5)) =
      some (true, false, 0b10100#5, 0b00100#5) ∧
    response (exec .flush (st true false 0b11100#5 0b00100#5)) = some { deliver := some 0x58#8 } := by
  decide

/-- E2: every request masked. -/
theorem test_enable_all_masked :
    bits (exec .enable (st false true 0b10000#5 0b11111#5)) =
      some (true, false, 0b10000#5, 0b11111#5) ∧
    response (exec .enable (st false true 0b10000#5 0b11111#5)) = some {} := by decide

/-- E1: the pending source is delivered by the ENABLE itself. -/
theorem test_enable_delivers :
    bits (exec .enable (st false false 0b10000#5 0b01111#5)) =
      some (true, false, 0#5, 0b01111#5) ∧
    response (exec .enable (st false false 0b10000#5 0b01111#5)) = some { deliver := some 0x60#8 } := by
  decide

/-- D1: DISABLE keeps `pend` and the requests. -/
theorem test_disable :
    bits (exec .disable (st true true 0b00001#5 0#5)) = some (false, true, 0b00001#5, 0#5) := by decide

/-- P1. -/
theorem test_rdpend :
    response (exec .rdpend (st true true 0#5 0b11111#5)) = some { rdata := some 0x01#8 } := by decide

/-- RR3: a masked request reads as set. -/
theorem test_rdreq :
    response (exec .rdreq (st false false 0b00101#5 0b00101#5)) = some { rdata := some 0xE5#8 } := by
  decide

/-- WR1. -/
theorem test_wrreq_sets_pend :
    bits (exec (.wrreq 0xE4#8) (st true false 0#5 0b11111#5)) =
      some (true, true, 0b00100#5, 0b11111#5) := by decide

/-- WR4: bits 7:5 alone do not set `pend`. -/
theorem test_wrreq_high_bits :
    bits (exec (.wrreq 0xE0#8) (st true false 0b00011#5 0b11111#5)) =
      some (true, false, 0#5, 0b11111#5) := by decide

/-- RM3. -/
theorem test_rdmsk :
    response (exec .rdmsk (st false false 0#5 0b11010#5)) = some { rdata := some 0x05#8 } := by decide

/-- WM4: unmasked, not delivered. -/
theorem test_wrmsk_does_not_deliver :
    bits (exec (.wrmsk 0x01#8) (st true false 0b00001#5 0b11111#5)) =
      some (true, false, 0b00001#5, 0b11110#5) ∧
    response (exec (.wrmsk 0x01#8) (st true false 0b00001#5 0b11111#5)) = some {} := by decide

/-- WM3: bits 7:5 ignored. -/
theorem test_wrmsk_high_bits :
    bits (exec (.wrmsk 0xE0#8) (st false false 0#5 0#5)) = some (false, false, 0#5, 0b11111#5) := by
  decide

/-- R79's own example line, with a comment, and a line of comment only. -/
theorem test_assembleLine :
    assembleLine ['W', 'r', 'r', 'e', 'q', ' ', '#', '0', 'x', 'E', '4', ' ', ';', 'T'] =
      some [.wrreq 0xE4#8] ∧
    assembleLine [';', 'x'] = some [] := ⟨rfl, rfl⟩

/-- R79: `#8` is no source, and a mnemonic without its operand is no command. -/
theorem test_assembleLine_refuses :
    assembleLine ['R', 'E', 'Q', 'U', 'E', 'S', 'T', ' ', '#', '8'] = none ∧
    assembleLine ['W', 'R', 'M', 'S', 'K'] = none := ⟨rfl, rfl⟩

/-- R79: one command a line. -/
theorem test_assemble :
    assemble ['F', 'L', 'U', 'S', 'H', '\n', 'R', 'D', 'R', 'E', 'Q'] = some [0x2000#16, 0x6000#16] :=
  rfl

/-! ### Witnesses: the hypotheses of the statements can be met -/

/-- A state with these commands to apply. -/
def wst (ws : List Word) (en pend : Bool) (req msk : FlagFile) : State :=
  (st en pend req msk).setCmds ws

/-- VBLANK wins among JOYPAD and VBLANK, both unmasked. -/
theorem wins_vblank : Wins 0b10001#5 0#5 .vblank :=
  ⟨by decide, by decide, fun j => by cases j <;> decide⟩

/-- JOYPAD wins with VBLANK masked: the last source of the scan. -/
theorem wins_joypad : Wins 0b10001#5 0b00001#5 .joypad :=
  ⟨by decide, by decide, fun j => by cases j <;> decide⟩

/-- JOYPAD wins once VBLANK has been delivered. -/
theorem wins_joypad_next : Wins (0b10001#5 &&& ~~~(1#5 <<< Source.vblank.index)) 0#5 .joypad :=
  ⟨by decide, by decide, fun j => by cases j <;> decide⟩

theorem noneWins_masked : NoneWins 0b00110#5 0b00110#5 := fun i => by cases i <;> decide

theorem noneWins_idle : NoneWins 0#5 0#5 := fun i => by cases i <;> decide

theorem noneWins_posted : NoneWins (0#5 ||| 1#5 <<< Source.timer.index) 0b00100#5 :=
  fun i => by cases i <;> decide

theorem test_witness_StepRunsDecodedCommand :
    (wst [0x2000#16] true false 0b10001#5 0#5).faulted = none ∧
    (wst [0x2000#16] true false 0b10001#5 0#5).cmds = 0x2000#16 :: [] ∧
    decode 0x2000#16 = .command .flush := by decide

theorem test_witness_PlacedWordRunsNext :
    State.reset.faulted = none ∧ decodeTableWord 16 0x9FFF = none ∧
    decodeTableWord 16 0x90FF = some (.wrmsk 0xFF#8) := by decide

theorem test_witness_IllegalWordRaisesFault :
    (wst [0xA000#16] true false 0#5 0#5).faulted = none ∧
    (wst [0xA000#16] true false 0#5 0#5).cmds = 0xA000#16 :: [] ∧
    decode 0xA000#16 = .illegal .reservedOpcode := by decide

theorem test_witness_FaultedModelTakesNoStep :
    (raiseFault (.illegalCommand 0x0000#16) State.reset).faulted = some (.illegalCommand 0x0000#16) := by
  decide

theorem test_witness_NoCommandNoMove : State.reset.faulted = none ∧ State.reset.cmds = [] := by decide

theorem test_witness_FaultsComeFromBadWordsOnly :
    ∃ t, (wst [0x1500#16] true false 0#5 0#5).faulted = none ∧
      step (wst [0x1500#16] true false 0#5 0#5) = .next t ∧
      t.faulted = some (.invalidSource 0x1500#16) := ⟨_, by decide, rfl, by decide⟩

theorem test_witness_EncodeOfDecode : decode 0x1700#16 = .command (.request 7#3) := by decide

theorem test_witness_OpcodeTableMatchesDecoder :
    decode 0x9000#16 = .command (.wrmsk 0#8) ∧ decode 0x9100#16 = .illegal .mustBeZero ∧
    decode 0xA000#16 = .illegal .reservedOpcode := by decide

/-- Both ends of the reserved ranges, and the words just outside them. -/
theorem test_witness_ReservedOpcodesAreIllegal :
    decode 0x0FFF#16 = .illegal .reservedOpcode ∧ decode 0xA000#16 = .illegal .reservedOpcode ∧
    decode 0xFFFF#16 = .illegal .reservedOpcode ∧ decode 0x1000#16 ≠ .illegal .reservedOpcode ∧
    decode 0x9FFF#16 ≠ .illegal .reservedOpcode := by decide

theorem test_witness_MustBeZeroBitsAreIllegal :
    (0x1800#16).getLsbD 11 = true ∧
    (0x7100#16 &&& 0x0700#16 ≠ 0#16 ∧ 0x7100#16 >>> 12 ≠ 0x1#16) ∧
    (0x1001#16 &&& 0x00FF#16 ≠ 0#16 ∧ 0x1001#16 >>> 12 ≠ 0x7#16 ∧ 0x1001#16 >>> 12 ≠ 0x9#16) := by
  decide

theorem test_witness_FlushFiveCases :
    ((st false true 0#5 0#5).en = false ∧ (st false true 0#5 0#5).req = 0#5) ∧
    ((st false true 0b10000#5 0b11111#5).en = false ∧ (st false true 0b10000#5 0b11111#5).req ≠ 0#5) ∧
    ((st true true 0b00110#5 0b00110#5).en = true ∧
      NoneWins (st true true 0b00110#5 0b00110#5).req (st true true 0b00110#5 0b00110#5).msk) ∧
    ((st true true 0b10001#5 0b00001#5).en = true ∧
      Wins (st true true 0b10001#5 0b00001#5).req (st true true 0b10001#5 0b00001#5).msk .joypad) :=
  ⟨by decide, by decide, ⟨rfl, noneWins_masked⟩, ⟨rfl, wins_joypad⟩⟩

/-- The lower-ranked JOYPAD is pending in the one state and not in the other. -/
theorem test_witness_FlushDeliversAtMostOne :
    (doFlush (st true false 0b10001#5 0#5)).2.deliver = some Source.vblank.vec ∧
    (st true false 0b00001#5 0b10000#5).en = (st true false 0b10001#5 0#5).en ∧
    ∀ j : Source, j.rank ≤ Source.vblank.rank →
      flag (st true false 0b00001#5 0b10000#5).req j = flag (st true false 0b10001#5 0#5).req j ∧
      flag (st true false 0b00001#5 0b10000#5).msk j = flag (st true false 0b10001#5 0#5).msk j :=
  ⟨by decide, rfl, fun j => by cases j <;> decide⟩

theorem test_witness_DeliveryLeavesEnableSet :
    (st true false 0b10001#5 0#5).en = true ∧
    Wins (st true false 0b10001#5 0#5).req (st true false 0b10001#5 0#5).msk .vblank ∧
    Wins ((st true false 0b10001#5 0#5).req &&& ~~~(1#5 <<< Source.vblank.index))
      (st true false 0b10001#5 0#5).msk .joypad := ⟨rfl, wins_vblank, wins_joypad_next⟩

theorem test_witness_FlushSharedByRequestAndEnable :
    (4#3).toNat = Source.joypad.index ∧ (st true false 0b00001#5 0#5).en = true := by decide

theorem test_witness_FiveFlushesDrain : (st true false 0b11111#5 0b00010#5).en = true := by decide

/-- Both ends of the operand's two ranges, and a request that is posted, one that is masked and one that
is delivered. -/
theorem test_witness_RequestEffect :
    4 < (5#3).toNat ∧ 4 < (7#3).toNat ∧ (0#3).toNat = Source.vblank.index ∧
    (4#3).toNat = Source.joypad.index ∧ (2#3).toNat = Source.timer.index ∧
    (st false false 0#5 0#5).en = false ∧ (st true false 0#5 0b00100#5).en = true ∧
    NoneWins ((st true false 0#5 0b00100#5).req ||| 1#5 <<< Source.timer.index)
      (st true false 0#5 0b00100#5).msk ∧
    Wins ((st true false 0b00001#5 0#5).req ||| 1#5 <<< Source.joypad.index)
      (st true false 0b00001#5 0#5).msk .vblank :=
  ⟨by decide, by decide, by decide, by decide, by decide, rfl, rfl, noneWins_posted, wins_vblank⟩

theorem test_witness_NestedFlushNeverWakes :
    (∃ t r, exec (.request 0#3) (st true false 0#5 0#5) = .next t ∧ t.resp = some r) ∧
    (∃ t r, exec .enable (st false false 0b00001#5 0b00001#5) = .next t ∧ t.resp = some r) :=
  ⟨⟨_, _, rfl, rfl⟩, ⟨_, _, rfl, rfl⟩⟩

theorem test_witness_DuplicateRequestMerges :
    (2#3).toNat = Source.timer.index ∧ (st false false 0#5 0#5).en = false ∧
    response (exec .enable (st false false 0b00100#5 0#5)) = some { deliver := some Source.timer.vec } := by
  decide

theorem test_witness_ArrivalOrderMattersOnlyEnabled :
    (0#3).toNat = Source.vblank.index ∧ (4#3).toNat = Source.joypad.index ∧
    (st false false 0#5 0#5).en = false ∧
    (st true false 0b00110#5 0b00110#5).en = true ∧
    flag (st true false 0b00110#5 0b00110#5).msk .vblank = false ∧
    NoneWins (st true false 0b00110#5 0b00110#5).req (st true false 0b00110#5 0b00110#5).msk :=
  ⟨by decide, by decide, rfl, rfl, by decide, noneWins_masked⟩

theorem test_witness_EnableEffect :
    NoneWins (st false true 0b00110#5 0b00110#5).req (st false true 0b00110#5 0b00110#5).msk ∧
    Wins (st false true 0b10001#5 0b00001#5).req (st false true 0b10001#5 0b00001#5).msk .joypad :=
  ⟨noneWins_masked, wins_joypad⟩

theorem test_witness_RdpendEffect :
    (st true true 0#5 0#5).pend = true ∧ (st true false 0#5 0#5).pend = false := by decide

theorem test_witness_FlushingCommandsClearPend :
    performsFlush .flush (st false true 0#5 0#5) = true ∧
    performsFlush (.request 4#3) (st true true 0#5 0#5) = true := by decide

theorem test_witness_WrreqEffect :
    ((st true false 0#5 0#5).en = true ∧ 0x10#8 &&& 0x1F#8 ≠ 0#8) ∧
    (st false false 0#5 0#5).en = false ∧ 0xE0#8 &&& 0x1F#8 = 0#8 := by decide

theorem test_witness_PostedRequestWaitsForFlush :
    ∃ t, exec (.wrreq 0x11#8) (st true false 0#5 0b00001#5) = .next t ∧
      (st true false 0#5 0b00001#5).en = true ∧ Wins t.req 0b00001#5 .joypad ∧
      (4#3).toNat = Source.joypad.index ∧
      Wins (t.req ||| 1#5 <<< Source.joypad.index) 0b00001#5 .joypad :=
  ⟨_, rfl, rfl, wins_joypad, by decide, wins_joypad⟩

theorem test_witness_UnmaskingWaitsForFlush :
    (st true false 0b10001#5 0b11111#5).en = true ∧
    Wins (st true false 0b10001#5 0b11111#5).req (~~~((0xFE#8).setWidth 5)) .joypad :=
  ⟨rfl, wins_joypad⟩

theorem test_witness_OnlyEnableAndDisableMoveTheLatch :
    (∃ t, step (wst [0x3000#16] false false 0#5 0#5) = .next t ∧
      t.macroState ≠ (wst [0x3000#16] false false 0#5 0#5).macroState) ∧
    ((wst [0x3000#16] false false 0#5 0#5).faulted = none ∧
      nextCommand (wst [0x3000#16] false false 0#5 0#5) = some .enable) ∧
    ((wst [0x4000#16] true false 0#5 0#5).faulted = none ∧
      nextCommand (wst [0x4000#16] true false 0#5 0#5) = some .disable) :=
  ⟨⟨_, rfl, by decide⟩, by decide, by decide⟩

theorem test_witness_PendWriters :
    (∃ t, step (wst [0x7010#16] true false 0#5 0#5) = .next t ∧ t.pend ≠ false ∧
      nextCommand (wst [0x7010#16] true false 0#5 0#5) = some (.wrreq 0x10#8)) ∧
    (∃ t, step (wst [0x2000#16] false true 0#5 0#5) = .next t ∧ t.pend ≠ true ∧
      nextPerformsFlush (wst [0x2000#16] false true 0#5 0#5) = true) ∧
    0x10#8 &&& 0x1F#8 ≠ 0#8 := ⟨⟨_, rfl, by decide, by decide⟩, ⟨_, rfl, by decide, by decide⟩, by decide⟩

theorem test_witness_RequestFlagWriters :
    (∃ t, step (wst [0x2000#16] true false 0b10000#5 0#5) = .next t ∧ flag t.req .joypad = false) ∧
    (∃ t, step (wst [0x7000#16] true false 0b10000#5 0#5) = .next t ∧ flag t.req .joypad = false) ∧
    flag (wst [0x2000#16] true false 0b10000#5 0#5).req .joypad = true ∧
    (∃ t, step (wst [0x1400#16] false false 0#5 0#5) = .next t ∧ flag t.req .joypad = true) ∧
    (∃ t, step (wst [0x7010#16] true false 0#5 0#5) = .next t ∧ flag t.req .joypad = true) ∧
    flag (wst [0x1400#16] false false 0#5 0#5).req .joypad = false :=
  ⟨⟨_, rfl, by decide⟩, ⟨_, rfl, by decide⟩, by decide, ⟨_, rfl, by decide⟩, ⟨_, rfl, by decide⟩,
    by decide⟩

/-- The clauses that say what sets and clears a flag: REQUEST TIMER, a delivering FLUSH and WRREQ. -/
theorem test_witness_RequestFlagWriters_positive :
    (nextCommand (wst [0x1200#16] false false 0#5 0#5) = some (.request 2#3) ∧
      (2#3).toNat = Source.timer.index) ∧
    (nextPerformsFlush (wst [0x2000#16] true false 0b10000#5 0#5) = true ∧
      response (step (wst [0x2000#16] true false 0b10000#5 0#5)) =
        some { deliver := some Source.joypad.vec }) ∧
    nextCommand (wst [0x70FF#16] false false 0#5 0#5) = some (.wrreq 0xFF#8) := by decide

theorem test_witness_MaskFlagWriters :
    (∃ t, step (wst [0x9010#16] false false 0#5 0b11111#5) = .next t ∧ t.msk ≠ 0b11111#5) ∧
    (wst [0x9010#16] false false 0#5 0b11111#5).faulted = none ∧
    nextCommand (wst [0x9010#16] false false 0#5 0b11111#5) = some (.wrmsk 0x10#8) :=
  ⟨⟨_, rfl, by decide⟩, by decide, by decide⟩

/-- One command meets the premises of every clause: REQUEST TIMER while disabled, seen from VBLANK. -/
theorem test_witness_CommandFrame :
    ∃ t, exec (.request 2#3) (st false false 0b00001#5 0#5) = .next t ∧
      (Instr.request 2#3).wellFormed = true ∧ performsFlush (.request 2#3) (st false false 0b00001#5 0#5) = false ∧
      (2#3).toNat ≠ Source.vblank.index ∧ t.resp ≠ some { deliver := some Source.vblank.vec } :=
  ⟨_, rfl, by decide, by decide, by decide, by decide⟩

/-- RDREQ meets the premise that is about neither REQUEST nor a write. -/
theorem test_witness_CommandFrame_read :
    (∃ t, exec .rdreq (st true true 0b00001#5 0#5) = .next t) ∧
    performsFlush .rdreq (st true true 0b00001#5 0#5) = false := ⟨⟨_, rfl⟩, by decide⟩

theorem test_witness_EveryCommandAnswers :
    (Instr.request 4#3).wellFormed = true ∧ (Instr.request 5#3).wellFormed = false := by decide

theorem test_witness_PendIsHidden : Instr.flush ≠ .rdpend := by decide

theorem test_witness_ConsistencyKeptByEveryStep :
    ∃ t, (wst [0x3000#16] false false 0b10000#5 0#5).Consistent ∧
      step (wst [0x3000#16] false false 0b10000#5 0#5) = .next t ∧
      t.resp = some { deliver := some 0x60#8 } :=
  ⟨_, ⟨fun _ h => (nomatch h), fun _ h => (nomatch h)⟩, rfl, by decide⟩

/-- A consistent state need not be quiet: after the delivery above, with a fault to come. -/
theorem test_witness_Consistent_after_delivery :
    ({ st true false 0#5 0#5 with resp := some { deliver := some 0x60#8 }, cmds := [0#16] } : State).Consistent :=
  ⟨fun _ h => (nomatch h), fun r h => by
    cases h
    exact ⟨fun h => (nomatch h), fun v h => by cases h; exact ⟨rfl, rfl, rfl, .joypad, rfl, rfl, rfl⟩⟩⟩

theorem test_witness_NoDeliveryUntilNextEnable :
    (wst [0x4000#16, 0x2000#16] true false 0b00001#5 0#5).faulted = none ∧
    nextCommand (wst [0x4000#16, 0x2000#16] true false 0b00001#5 0#5) = some .disable ∧
    (∀ w ∈ [0x2000#16].take 1, decode w ≠ .command .enable) ∧
    (bits (core.run 1 (wst [0x2000#16] false false 0b00001#5 0#5))).isSome = true :=
  ⟨by decide, by decide, by intro w h; fin_cases h; decide, by decide⟩

/-- After a delivery of VBLANK, with JOYPAD still pending. -/
def afterDelivery (ws : List Word) : State :=
  { wst ws true false 0b10000#5 0#5 with resp := some { deliver := some 0x40#8 } }

/-- The host applies DISABLE, REQUEST SERIAL and FLUSH. -/
theorem test_witness_DutyPreventsSecondDelivery :
    HostDisablesOnDelivery (afterDelivery [0x4000#16, 0x1300#16, 0x2000#16]) ∧
    delivered (afterDelivery [0x4000#16, 0x1300#16, 0x2000#16]) = true ∧
    (∀ w ∈ [0x4000#16, 0x1300#16, 0x2000#16].take 3, decode w ≠ .command .enable) ∧
    (bits (core.run 3 (afterDelivery [0x4000#16, 0x1300#16, 0x2000#16]))).isSome = true :=
  ⟨by decide, by decide, by intro w h; fin_cases h <;> decide, by decide⟩

/-- A FLUSH before the DISABLE breaks the duty. -/
theorem test_duty_broken : ¬HostDisablesOnDelivery (afterDelivery [0x2000#16, 0x4000#16]) := by
  decide

/-- A FLUSH behind an Illegal word is never applied (R161), so it breaks no duty. -/
theorem test_duty_ends_at_fault : HostDisablesOnDelivery (afterDelivery [0x0000#16, 0x2000#16]) := by
  decide

theorem test_witness_LegalRunsEndWellAndOthersFault :
    (∀ w ∈ [0x3000#16, 0x1400#16], legalWord w = true) ∧
    (∃ w ∈ [0x3000#16, 0x1500#16, 0x2000#16], legalWord w = false) ∧
    (wst [0x3000#16, 0x1400#16] false false 0#5 0#5).faulted = none :=
  ⟨by intro w h; fin_cases h <;> decide, ⟨0x1500#16, by decide, by decide⟩, by decide⟩

end Sys2Proof.Tests
end

section
/-! SUPPORT. Rules that the statements about the state's writers (10_state.md R22 to R24, R26, R30) share:
the sources' vectors, the write values, each command's meaning, and what a step can do to `pend`, the
request flags and the mask flags. -/

namespace Sys2Proof

theorem Source.vec_injective {i j : Source} (h : i.vec = j.vec) : i = j := by
  revert h; cases i <;> cases j <;> decide

end Sys2Proof

namespace Sys2Proof.Machine

variable {s t : State} {i : Instr}

/-! ### The write values -/

@[simp] theorem flag_zero (k : Source) : flag 0#5 k = false := by simp [flag]

@[simp] theorem flag_reqOfData (x : Byte) (k : Source) :
    flag (reqOfData x) k = x.getLsbD k.index := by
  simp [flag, reqOfData, dataFlags, k.index_lt]

@[simp] theorem flag_mskOfData (x : Byte) (k : Source) :
    flag (mskOfData x) k = !x.getLsbD k.index := by
  simp [flag, mskOfData, dataFlags, k.index_lt]

/-- Bits 4:0 of a write value, as the field and as a masked byte. -/
theorem dataFlags_eq_zero_iff (x : Byte) : dataFlags x = 0#5 ↔ x &&& 0x1F#8 = 0#8 := by
  revert x; decide

theorem pendAfterWrite_of_posts {x : Byte} (p : Bool) (hx : x &&& 0x1F#8 ≠ 0#8) :
    pendAfterWrite true p x = true := by
  simp [pendAfterWrite, mt (dataFlags_eq_zero_iff x).mp hx]

/-- A WRREQ that changes `pend` sets it, and meets both conditions of R22. -/
theorem pendAfterWrite_ne {e p : Bool} {x : Byte} (h : pendAfterWrite e p x ≠ p) :
    pendAfterWrite e p x = true ∧ e = true ∧ x &&& 0x1F#8 ≠ 0#8 := by
  unfold pendAfterWrite at *
  split at h
  · next hc =>
    obtain ⟨he, hx⟩ := Bool.and_eq_true_iff.mp hc
    exact ⟨if_pos hc, he, fun h0 => by simp [(dataFlags_eq_zero_iff x).mpr h0] at hx⟩
  · exact absurd rfl h

/-! ### The flush and the request flags -/

/-- A flush leaves a request flag set just when it was set and its source is not the one delivered. -/
theorem flag_doFlush_req (s : State) (k : Source) :
    flag (doFlush s).1.req k =
      (flag s.req k && !decide ((doFlush s).2 = { deliver := some k.vec })) := by
  obtain ⟨j, _, _, h⟩ | ⟨_, _, h⟩ | ⟨_, h⟩ := doFlush_cases s
  · by_cases hk : k = j
    · subst hk; simp [h]
    · have hv : j.vec ≠ k.vec := fun hv => hk (Source.vec_injective hv).symm
      simp [h, flag_clearFlag_of_ne s.req hk, hv]
  · simp [h]
  · simp [h]

/-! ### The meaning of each command -/

theorem exec_request (src : BitVec 3) (s : State) : exec (.request src) s = execRequest src s := rfl

@[simp] theorem exec_flush (s : State) : exec .flush s = .next (flushAndRespond s) := rfl

@[simp] theorem exec_enable (s : State) :
    exec .enable s = .next (flushAndRespond (s.setEn true)) := rfl

@[simp] theorem exec_disable (s : State) :
    exec .disable s = .next ((s.setEn false).respond {}) := rfl

@[simp] theorem exec_rdpend (s : State) :
    exec .rdpend s = .next (s.respond { rdata := some (boolByte s.pend) }) := rfl

@[simp] theorem exec_rdreq (s : State) :
    exec .rdreq s = .next (s.respond { rdata := some (readRegister .req s) }) := rfl

@[simp] theorem exec_wrreq (x : Byte) (s : State) :
    exec (.wrreq x) s =
      .next (((s.setReqFlags (reqOfData x)).setPend (pendAfterWrite s.en s.pend x)).respond {}) := rfl

@[simp] theorem exec_rdmsk (s : State) :
    exec .rdmsk s = .next (s.respond { rdata := some (readRegister .msk s) }) := rfl

@[simp] theorem exec_wrmsk (x : Byte) (s : State) :
    exec (.wrmsk x) s = .next ((s.setMskFlags (mskOfData x)).respond {}) := rfl

/-- REQUEST while disabled posts its source and answers the default response. -/
theorem exec_request_disabled {src : BitVec 3} {k : Source} (hen : s.en = false)
    (hk : src.toNat = k.index) : exec (.request src) s = .next ((s.postRequest k).respond {}) := by
  obtain ⟨hbad, -⟩ | ⟨j, hj, -, hx⟩ | ⟨_, -, hen', -⟩ := execRequest_cases src s
  · have := k.index_lt
    omega
  · rwa [exec_request, Source.index_injective (hk.symm.trans hj)]
  · simp [hen] at hen'

/-! ### What a command can do to `pend`, `req` and `msk` -/

/-- `u` is the state the flush of command `i` starts from: the masks are those of `s`, and so are the
request flags, but for the source a REQUEST has just posted. -/
def FlushStart (i : Instr) (s u : State) : Prop :=
  u.msk = s.msk ∧
    (u.req = s.req ∨
      ∃ src k, i = .request src ∧ src.toNat = k.index ∧ u.req = setFlag s.req k)

theorem FlushStart.refl (i : Instr) (s : State) : FlushStart i s s := ⟨rfl, .inl rfl⟩

/-- A flag that is set stays set up to the flush. -/
theorem FlushStart.flag_of_flag {u : State} {k : Source} (h : FlushStart i s u)
    (hk : flag s.req k = true) : flag u.req k = true := by
  obtain ⟨-, hreq | ⟨_, j, _, _, hreq⟩⟩ := h
  · rw [hreq, hk]
  · by_cases hkj : k = j
    · rw [hreq, hkj, flag_setFlag_self]
    · rw [hreq, flag_setFlag_of_ne _ hkj, hk]

/-- A flag set between the command's start and its flush was posted by a REQUEST of that source. -/
theorem FlushStart.request_of_flag {u : State} {k : Source} (h : FlushStart i s u)
    (hk : flag s.req k = false) (hu : flag u.req k = true) :
    ∃ src, i = .request src ∧ src.toNat = k.index := by
  obtain ⟨-, hreq | ⟨src, j, hi, hsrc, hreq⟩⟩ := h
  · simp [hreq, hk] at hu
  · by_cases hkj : k = j
    · exact ⟨src, hi, hkj ▸ hsrc⟩
    · simp [hreq, flag_setFlag_of_ne _ hkj, hk] at hu

/-- A flush-performing command ends with its flush. -/
theorem exec_of_performsFlush (h : performsFlush i s = true) :
    ∃ u, FlushStart i s u ∧ exec i s = .next (flushAndRespond u) := by
  cases i with
  | request src =>
    obtain ⟨hen, hwf⟩ : s.en = true ∧ src.toNat ≤ 4 := by
      simpa [performsFlush, Instr.wellFormed] using h
    obtain ⟨hbad, -⟩ | ⟨_, -, hen', -⟩ | ⟨k, hk, -, hx⟩ := execRequest_cases src s
    · omega
    · simp [hen] at hen'
    · exact ⟨s.postRequest k, ⟨rfl, .inr ⟨src, k, rfl, hk, rfl⟩⟩,
        (exec_request src s).trans hx⟩
  | flush => exact ⟨s, .refl _ s, exec_flush s⟩
  | enable => exact ⟨s.setEn true, ⟨rfl, .inl rfl⟩, exec_enable s⟩
  | disable | rdpend | rdreq | wrreq | rdmsk | wrmsk => cases h

/-- Everything a command can do to `pend`, the request flags and the mask flags: end with a flush, post a
request and wait, write the request flags, write the mask flags, or leave all three alone. -/
theorem exec_next_cases (h : exec i s = .next t) :
    (performsFlush i s = true ∧ ∃ u, FlushStart i s u ∧ t = flushAndRespond u) ∨
    (∃ src k, i = .request src ∧ src.toNat = k.index ∧ t = (s.postRequest k).respond {}) ∨
    (∃ x, i = .wrreq x ∧
      t = ((s.setReqFlags (reqOfData x)).setPend (pendAfterWrite s.en s.pend x)).respond {}) ∨
    (∃ x, i = .wrmsk x ∧ t = (s.setMskFlags (mskOfData x)).respond {}) ∨
    (t.pend = s.pend ∧ t.req = s.req ∧ t.msk = s.msk) := by
  by_cases hfl : performsFlush i s = true
  · obtain ⟨u, hu, hx⟩ := exec_of_performsFlush hfl
    exact .inl ⟨hfl, u, hu, Host.Outcome.next.inj (h.symm.trans hx)⟩
  refine .inr ?_
  cases i with
  | request src =>
    obtain ⟨-, hx⟩ | ⟨k, hk, -, hx⟩ | ⟨k, hk, hen, -⟩ := execRequest_cases src s
    · obtain rfl := Host.Outcome.next.inj (h.symm.trans hx)
      exact .inr (.inr (.inr ⟨rfl, rfl, rfl⟩))
    · exact .inl ⟨src, k, rfl, hk, Host.Outcome.next.inj (h.symm.trans hx)⟩
    · have := k.index_lt
      exact absurd (by simp [performsFlush, Instr.wellFormed, hen]; omega) hfl
  | flush | enable => exact absurd rfl hfl
  | wrreq x => exact .inr (.inl ⟨x, rfl, Host.Outcome.next.inj (h.symm.trans (exec_wrreq x s))⟩)
  | wrmsk x => exact .inr (.inr (.inl ⟨x, rfl, Host.Outcome.next.inj (h.symm.trans (exec_wrmsk x s))⟩))
  | disable | rdpend | rdreq | rdmsk =>
    simp only [exec_disable, exec_rdpend, exec_rdreq, exec_rdmsk, Host.Outcome.next.injEq] at h
    subst h
    exact .inr (.inr (.inr ⟨rfl, rfl, rfl⟩))

/-! ### From a command to the step that applies it -/

@[simp] theorem performsFlush_setCmds (i : Instr) (s : State) (ws : List Word) :
    performsFlush i (s.setCmds ws) = performsFlush i s := by cases i <;> rfl

theorem nextCommand_of_cons {w : Word} {rest : List Word} (h : s.cmds = w :: rest) :
    nextCommand s = (decode w).command? := by simp only [nextCommand, h]

theorem nextPerformsFlush_iff :
    nextPerformsFlush s = true ↔ ∃ i, nextCommand s = some i ∧ performsFlush i s = true := by
  unfold nextPerformsFlush
  cases nextCommand s <;> simp

/-- The step of a model that is not faulted runs its next command. -/
theorem step_of_nextCommand (hf : s.faulted = none) (h : nextCommand s = some i) :
    ∃ rest, step s = exec i (s.setCmds rest) := by
  obtain ⟨f, hf', -⟩ | ⟨-, hc, -⟩ | ⟨w, rest, j, -, hc, hd, hst⟩ | ⟨w, rest, why, -, hc, hd, -⟩ :=
    step_cases s
  · simp [hf] at hf'
  · simp [nextCommand, hc] at h
  · have hj : j = i := by simpa [nextCommand_of_cons hc, hd, Decoded.command?] using h
    exact ⟨rest, hj ▸ hst⟩
  · simp [nextCommand_of_cons hc, hd, Decoded.command?] at h

/-- A step to a next state ran the next command, or kept `pend` and both flag files. -/
theorem step_next_cases (h : step s = .next t) :
    (∃ i rest, nextCommand s = some i ∧ exec i (s.setCmds rest) = .next t) ∨
    (t.pend = s.pend ∧ t.req = s.req ∧ t.msk = s.msk) := by
  obtain ⟨f, -, hst⟩ | ⟨-, -, hst⟩ | ⟨w, rest, i, -, hc, hd, hst⟩ | ⟨w, rest, why, -, -, -, hst⟩ :=
    step_cases s
  · cases hst.symm.trans h
  · cases hst.symm.trans h; exact .inr ⟨rfl, rfl, rfl⟩
  · exact .inl ⟨i, rest, by simp [nextCommand_of_cons hc, hd, Decoded.command?], hst ▸ h⟩
  · cases hst.symm.trans h; exact .inr ⟨rfl, rfl, rfl⟩

/-- The step of a flush-performing command ends with its flush. -/
theorem step_of_nextPerformsFlush (hf : s.faulted = none) (h : nextPerformsFlush s = true) :
    ∃ u, step s = .next (flushAndRespond u) := by
  obtain ⟨i, hi, hfl⟩ := nextPerformsFlush_iff.mp h
  obtain ⟨rest, hst⟩ := step_of_nextCommand hf hi
  obtain ⟨u, -, hx⟩ := exec_of_performsFlush ((performsFlush_setCmds i s rest).trans hfl)
  exact ⟨u, hst.trans hx⟩

end Sys2Proof.Machine
end

section
/-! PROOFS. Reset and the source table (10_state.md R26, R30), and who writes `pend`, the request flags and
the mask flags over every step (R22, R23, R24). -/

namespace Sys2Proof.Machine

variable {s t : State} {i : Instr}

/-! ### What changes each piece of state, for one command -/

theorem exec_changes_pend (h : exec i s = .next t) (hne : t.pend ≠ s.pend) :
    (t.pend = true ∧ s.en = true ∧ ∃ x, i = .wrreq x ∧ x &&& 0x1F#8 ≠ 0#8) ∨
    (t.pend = false ∧ performsFlush i s = true) := by
  obtain ⟨hfl, u, -, rfl⟩ | ⟨_, _, -, -, rfl⟩ | ⟨x, hi, rfl⟩ | ⟨_, -, rfl⟩ | ⟨hpend, -, -⟩ :=
    exec_next_cases h
  · exact .inr ⟨flushAndRespond_pend u, hfl⟩
  · exact absurd rfl hne
  · obtain ⟨hset, hen, hx⟩ := pendAfterWrite_ne hne
    exact .inl ⟨hset, hen, x, hi, hx⟩
  · exact absurd rfl hne
  · exact absurd hpend hne

theorem exec_clears_flag {k : Source} (h : exec i s = .next t) (hs : flag s.req k = true)
    (ht : flag t.req k = false) :
    (performsFlush i s = true ∧ t.resp = some { deliver := some k.vec }) ∨
    ∃ x, i = .wrreq x ∧ x.getLsbD k.index = false := by
  obtain ⟨hfl, u, hu, rfl⟩ | ⟨_, j, -, -, rfl⟩ | ⟨x, hi, rfl⟩ | ⟨_, -, rfl⟩ | ⟨-, hreq, -⟩ :=
    exec_next_cases h
  · have hdel : (doFlush u).2 = { deliver := some k.vec } := by
      simpa [flag_doFlush_req, hu.flag_of_flag hs] using ht
    exact .inl ⟨hfl, by rw [flushAndRespond_resp, hdel]⟩
  · by_cases hkj : k = j
    · simp [hkj] at ht
    · simp [flag_setFlag_of_ne s.req hkj, hs] at ht
  · exact .inr ⟨x, hi, by simpa using ht⟩
  · simp [hs] at ht
  · simp [hreq, hs] at ht

theorem exec_sets_flag {k : Source} (h : exec i s = .next t) (hs : flag s.req k = false)
    (ht : flag t.req k = true) :
    (∃ src, i = .request src ∧ src.toNat = k.index) ∨
    ∃ x, i = .wrreq x ∧ x.getLsbD k.index = true := by
  obtain ⟨-, u, hu, rfl⟩ | ⟨src, j, hi, hsrc, rfl⟩ | ⟨x, hi, rfl⟩ | ⟨_, -, rfl⟩ | ⟨-, hreq, -⟩ :=
    exec_next_cases h
  · rw [flushAndRespond_req, flag_doFlush_req, Bool.and_eq_true] at ht
    exact .inl (hu.request_of_flag hs ht.1)
  · by_cases hkj : k = j
    · exact .inl ⟨src, hi, hkj ▸ hsrc⟩
    · simp [flag_setFlag_of_ne s.req hkj, hs] at ht
  · exact .inr ⟨x, hi, by simpa using ht⟩
  · simp [hs] at ht
  · simp [hreq, hs] at ht

theorem exec_changes_msk (h : exec i s = .next t) (hne : t.msk ≠ s.msk) :
    ∃ x, i = .wrmsk x ∧ t.msk = mskOfData x := by
  obtain ⟨-, u, ⟨hmsk, -⟩, rfl⟩ | ⟨_, _, -, -, rfl⟩ | ⟨_, -, rfl⟩ | ⟨x, hi, rfl⟩ | ⟨-, -, hmsk⟩ :=
    exec_next_cases h
  · exact absurd ((flushAndRespond_msk u).trans hmsk) hne
  · exact absurd rfl hne
  · exact absurd rfl hne
  · exact ⟨x, hi, rfl⟩
  · exact absurd hmsk hne

end Sys2Proof.Machine

open Sys2Proof Sys2Proof.Machine

/-- Settles O45: by the cases of a command's effect on the request flags, and what its flush delivers. -/
theorem requestFlagWriters : Obligations.RequestFlagWriters := by
  unfold Obligations.RequestFlagWriters
  refine ⟨fun s t k h => ?_, fun s src k hf hen hc hk => ?_, fun s t k hf hfl h hresp => ?_,
    fun s x k hf hc => ?_, fun mask k => flag_zero k⟩
  · obtain ⟨i, rest, hc, hx⟩ | ⟨-, hreq, -⟩ := step_next_cases h
    · refine ⟨fun hs ht => ?_, fun hs ht => ?_⟩
      · obtain ⟨hfl, hresp⟩ | ⟨x, rfl, hb⟩ := exec_clears_flag hx hs ht
        · rw [performsFlush_setCmds] at hfl
          exact .inl ⟨nextPerformsFlush_iff.mpr ⟨i, hc, hfl⟩, hresp⟩
        · exact .inr ⟨x, hc, hb⟩
      · obtain ⟨src, rfl, hk⟩ | ⟨x, rfl, hb⟩ := exec_sets_flag hx hs ht
        · exact .inl ⟨src, hc, hk⟩
        · exact .inr ⟨x, hc, hb⟩
    · rw [hreq]
      exact ⟨fun hs ht => absurd (hs.symm.trans ht) (by decide),
        fun hs ht => absurd (hs.symm.trans ht) (by decide)⟩
  · obtain ⟨rest, hst⟩ := step_of_nextCommand hf hc
    exact ⟨_, hst.trans (exec_request_disabled hen hk), flag_setFlag_self s.req k⟩
  · obtain ⟨u, hst⟩ := step_of_nextPerformsFlush hf hfl
    obtain rfl := Host.Outcome.next.inj (hst.symm.trans h)
    have hdel : (doFlush u).2 = { deliver := some k.vec } := Option.some.inj hresp
    simp [flag_doFlush_req, hdel]
  · obtain ⟨rest, hst⟩ := step_of_nextCommand hf hc
    exact ⟨_, hst.trans (exec_wrreq x _), flag_reqOfData x k⟩

/-- Settles O44: by the cases of a command's effect on `pend`. -/
theorem pendWriters : Obligations.PendWriters := by
  unfold Obligations.PendWriters
  refine ⟨fun s t h hne => ?_, fun s x hf hc hen hx => ?_, fun s hf hfl => ?_, fun mask => rfl⟩
  · obtain ⟨i, rest, hc, hex⟩ | ⟨hpend, -, -⟩ := step_next_cases h
    · obtain ⟨hset, hen, x, rfl, hx⟩ | ⟨hclear, hfl⟩ := exec_changes_pend hex hne
      · exact .inl ⟨hset, hen, x, hc, hx⟩
      · rw [performsFlush_setCmds] at hfl
        exact .inr ⟨hclear, nextPerformsFlush_iff.mpr ⟨i, hc, hfl⟩⟩
    · exact absurd hpend hne
  · obtain ⟨rest, hst⟩ := step_of_nextCommand hf hc
    exact ⟨_, hst.trans (exec_wrreq x _), by simp [hen, pendAfterWrite_of_posts s.pend hx]⟩
  · obtain ⟨u, hst⟩ := step_of_nextPerformsFlush hf hfl
    exact ⟨_, hst, flushAndRespond_pend u⟩

/-- Settles O46: by the cases of a command's effect on the mask flags. -/
theorem maskFlagWriters : Obligations.MaskFlagWriters := by
  unfold Obligations.MaskFlagWriters
  refine ⟨fun s t h hne => ?_, fun s x hf hc => ?_, fun mask => rfl⟩
  · obtain ⟨i, rest, hc, hex⟩ | ⟨-, -, hmsk⟩ := step_next_cases h
    · obtain ⟨x, rfl, hx⟩ := exec_changes_msk hex hne
      exact ⟨x, hc, fun k => hx ▸ flag_mskOfData x k⟩
    · exact absurd hmsk hne
  · obtain ⟨rest, hst⟩ := step_of_nextCommand hf hc
    exact ⟨_, hst.trans (exec_wrmsk x _), flag_mskOfData x⟩

/-- Settles O1: reset clears the request flags, and RDREQ ORs them into 0xE0. -/
theorem resetHasNoRequests : Obligations.ResetHasNoRequests := by
  unfold Obligations.ResetHasNoRequests
  intro mask
  have hread : readRegister .req (State.resetWith mask) = 0xE0#8 := by
    simp [readRegister, zext8]
  exact ⟨flag_zero, by rw [exec_rdreq, hread]⟩

/-- Settles O17: the table of R26 is read off the three definitions. -/
theorem sourceConstants : Obligations.SourceConstants := by
  unfold Obligations.SourceConstants; decide

end

section
/-! SUPPORT. The priority encoder and the flush in the words of the claims (40_arbiter.md R100, R102): the
encoder's answer as `Wins` and `NoneWins`, and what a flush does in each of its cases. -/

namespace Sys2Proof

/-- A source stands in the scan at its own index. -/
theorem Source.getElem_all_index (i : Source) (h : i.index < Source.all.length) :
    Source.all[i.index] = i := (List.getElem_eq_iff h).mpr i.ofIndex_index

/-- The rank orders the sources as the index does. -/
theorem Source.rank_lt_rank_iff {i j : Source} : j.rank < i.rank ↔ j.index < i.index :=
  Nat.add_lt_add_iff_right

end Sys2Proof

namespace Sys2Proof.Machine

variable {s : State} {v m : FlagFile} {i : Source}

/-! ### The encoder's answer -/

/-- The scan stops at a source just when that source wins. -/
theorem select_eq_some_iff : select v m = some i ↔ Wins v m i := by
  rw [select, List.find?_eq_some_iff_getElem]
  constructor
  · rintro ⟨hi, n, hn, hni, hbefore⟩
    obtain rfl : n = i.index :=
      Source.ofIndex_eq_some.mp (List.getElem?_eq_some_iff.mpr ⟨hn, hni⟩)
    obtain ⟨hreq, hmsk⟩ : flag v i = true ∧ flag m i = false := by simpa using hi
    refine ⟨hreq, hmsk, fun j hj => ?_⟩
    have := hbefore j.index (Source.rank_lt_rank_iff.mp hj)
    simpa [Source.getElem_all_index, imp_iff_not_or] using this
  · rintro ⟨hreq, hmsk, hbefore⟩
    refine ⟨by simp [hreq, hmsk], i.index, i.index_lt, i.getElem_all_index i.index_lt, fun n hn => ?_⟩
    have hlt : n < 5 := hn.trans i.index_lt
    have hidx : n = (Source.all[n]'hlt).index :=
      Source.ofIndex_eq_some.mp (List.getElem?_eq_getElem hlt)
    simpa [imp_iff_not_or] using hbefore _ (Source.rank_lt_rank_iff.mpr (hidx ▸ hn))

/-- The scan finds no source just when none requests unmasked. -/
theorem select_eq_none_iff : select v m = none ↔ NoneWins v m := by
  simp [select, NoneWins, List.find?_eq_none, Source.mem_all]

/-- A winner depends on its own flags and on those of the sources ranked above it, and on no others. -/
theorem Wins.congr {v' m' : FlagFile} (h : Wins v m i)
    (hagree : ∀ j : Source, j.rank ≤ i.rank → flag v' j = flag v j ∧ flag m' j = flag m j) :
    Wins v' m' i := by
  obtain ⟨hreq, hmsk, hbefore⟩ := h
  obtain ⟨hv, hm⟩ := hagree i le_rfl
  refine ⟨hv.trans hreq, hm.trans hmsk, fun j hj => ?_⟩
  obtain ⟨hvj, hmj⟩ := hagree j hj.le
  rw [hvj, hmj]
  exact hbefore j hj

/-- A flag file is not zero just when some flag is set. -/
theorem anyRequest_iff : anyRequest v = true ↔ ∃ k, flag v k = true := by
  rw [anyRequest, bne_iff_ne]
  constructor
  · intro hne
    by_contra hnone
    exact hne (flagFile_ext fun k => by simpa using not_exists.mp hnone k)
  · rintro ⟨k, hk⟩ rfl
    simp at hk

/-! ### The flush, case by case -/

theorem doFlush_of_disabled (hen : s.en = false) :
    doFlush s = (s.setPend false, { wake := anyRequest s.req }) := by
  obtain ⟨_, hen', -⟩ | ⟨hen', -⟩ | ⟨-, h⟩ := doFlush_cases s
  · simp [hen] at hen'
  · simp [hen] at hen'
  · exact h

theorem doFlush_of_noneWins (hen : s.en = true) (hnone : NoneWins s.req s.msk) :
    doFlush s = (s.setPend false, {}) := by
  obtain ⟨j, -, hj, -⟩ | ⟨-, -, h⟩ | ⟨hen', -⟩ := doFlush_cases s
  · simp [select_eq_none_iff.mpr hnone] at hj
  · exact h
  · simp [hen] at hen'

theorem doFlush_of_wins (hen : s.en = true) (hi : Wins s.req s.msk i) :
    doFlush s = ((s.setPend false).clearRequest i, { deliver := some i.vec }) := by
  have hsel := select_eq_some_iff.mpr hi
  obtain ⟨j, -, hj, h⟩ | ⟨-, hnone, -⟩ | ⟨hen', -⟩ := doFlush_cases s
  · obtain rfl : i = j := Option.some.inj (hsel.symm.trans hj)
    exact h
  · simp [hsel] at hnone
  · simp [hen] at hen'

/-! ### What a flush answers -/

/-- A flush delivers a source just when `en` is true and that source wins. -/
theorem doFlush_deliver_iff :
    (doFlush s).2.deliver = some i.vec ↔ s.en = true ∧ Wins s.req s.msk i := by
  constructor
  · intro hdel
    obtain ⟨j, hen, hj, h⟩ | ⟨-, -, h⟩ | ⟨-, h⟩ := doFlush_cases s
    · obtain rfl : j = i := Source.vec_injective (by simpa [h] using hdel)
      exact ⟨hen, select_eq_some_iff.mp hj⟩
    · simp [h] at hdel
    · simp [h] at hdel
  · rintro ⟨hen, hi⟩
    rw [doFlush_of_wins hen hi]

/-- R106: the wake signal, from the state before the flush. -/
theorem doFlush_wake_iff :
    (doFlush s).2.wake = true ↔ s.en = false ∧ ∃ k, flag s.req k = true := by
  obtain ⟨_, hen, -, h⟩ | ⟨hen, -, h⟩ | ⟨hen, h⟩ := doFlush_cases s
  · simp [h, hen]
  · simp [h, hen]
  · simp [h, hen, anyRequest_iff]

/-- A flush delivers some source just when `en` is true and one requests unmasked. -/
theorem doFlush_deliver_isSome_iff :
    (doFlush s).2.deliver.isSome = true ↔
      s.en = true ∧ ∃ k, flag s.req k = true ∧ flag s.msk k = false := by
  obtain ⟨j, hen, hj, h⟩ | ⟨hen, hnone, h⟩ | ⟨hen, h⟩ := doFlush_cases s
  · simpa [h, hen] using ⟨j, flag_of_select hj⟩
  · have : ¬∃ k, flag s.req k = true ∧ flag s.msk k = false :=
      not_exists.mpr (select_eq_none_iff.mp hnone)
    simpa [h, hen] using this
  · simp [h, hen]

end Sys2Proof.Machine
end

section
/-! PROOFS. The priority encoder and FLUSH (40_arbiter.md R100, R103 to R106). -/

open Sys2Proof Sys2Proof.Machine

/-- Settles O19: the scan in priority order stops at its first hit. -/
theorem encoderPicksFirstUnmasked : Obligations.EncoderPicksFirstUnmasked := by
  unfold Obligations.EncoderPicksFirstUnmasked
  exact fun _ _ => ⟨fun _ => select_eq_some_iff, select_eq_none_iff⟩

/-- Settles O21: each case of the flush, with its response put in. -/
theorem flushFiveCases : Obligations.FlushFiveCases := by
  unfold Obligations.FlushFiveCases
  refine ⟨by decide, fun s => ?_⟩
  have hflush : exec .flush s = .next ((doFlush s).1.respond (doFlush s).2) := exec_flush s
  refine ⟨fun hen hidle => ?_, fun hen hreq => ?_, fun hen hnone => ?_,
    fun i hen hi => ?_⟩
  · have hwake : anyRequest s.req = false := by simp [anyRequest, hidle]
    rw [hflush, doFlush_of_disabled hen, hwake]
    rfl
  · have hwake : anyRequest s.req = true := bne_iff_ne.mpr hreq
    rw [hflush, doFlush_of_disabled hen, hwake]
    rfl
  · rw [hflush, doFlush_of_noneWins hen hnone]
    rfl
  · rw [hflush, doFlush_of_wins hen hi]
    rfl

/-- Settles O22: by the cases of the flush; a delivery depends on `en` and on its source winning, which
the lower-ranked flags do not enter. -/
theorem flushDeliversAtMostOne : Obligations.FlushDeliversAtMostOne := by
  unfold Obligations.FlushDeliversAtMostOne
  refine fun s => ⟨?_, fun i s' hdel hen hagree => ?_⟩
  · obtain ⟨i, -, hi, h⟩ | ⟨-, -, h⟩ | ⟨-, h⟩ := doFlush_cases s
    · rw [h]
      exact .inr ⟨i, rfl, (flag_of_select hi).1, flag_clearFlag_self s.req i,
        fun j hj => flag_clearFlag_of_ne s.req hj⟩
    · exact .inl (by simp [h])
    · exact .inl (by simp [h])
  · obtain ⟨hen₀, hi⟩ := doFlush_deliver_iff.mp hdel
    exact doFlush_deliver_iff.mpr ⟨hen.trans hen₀, hi.congr hagree⟩

/-- Settles O23: the first FLUSH leaves `en` and the masks, and just the flags the second source wins
with. -/
theorem deliveryLeavesEnableSet : Obligations.DeliveryLeavesEnableSet := by
  unfold Obligations.DeliveryLeavesEnableSet
  refine ⟨doFlush_en, fun s i j hen hi hj => ?_⟩
  have hfirst := doFlush_of_wins hen hi
  have hen' : (flushAndRespond s).en = true := (flushAndRespond_en s).trans hen
  have hj' : Wins (flushAndRespond s).req (flushAndRespond s).msk j := by
    rw [flushAndRespond_req, flushAndRespond_msk, hfirst]
    exact hj
  have hsecond := doFlush_of_wins hen' hj'
  exact ⟨flushAndRespond s, flushAndRespond (flushAndRespond s),
    exec_flush s, by rw [flushAndRespond_resp, hfirst],
    exec_flush _, by rw [flushAndRespond_resp, hsecond],
    (flushAndRespond_en _).trans hen'⟩

/-- Settles O24: FLUSH answers what its flush answers, wake and delivery each as R106 says. -/
theorem wakeSignalExact : Obligations.WakeSignalExact := by
  unfold Obligations.WakeSignalExact
  exact fun s => ⟨flushAndRespond s, (doFlush s).2, exec_flush s, flushAndRespond_resp s,
    doFlush_wake_iff, doFlush_deliver_isSome_iff⟩

end

section
/-! PROOFS. The global enable (41_global_enable.md R121, R123, R125): ENABLE, DISABLE and RDPEND. -/

open Sys2Proof Sys2Proof.Machine

/-- Settles O31: ENABLE is the flush of the state whose latch is already set, which cannot take the
disabled case. -/
theorem enableEffect : Obligations.EnableEffect := by
  unfold Obligations.EnableEffect
  refine ⟨by decide, fun s => ?_⟩
  have henable : exec .enable s =
      .next ((doFlush (s.setEn true)).1.respond (doFlush (s.setEn true)).2) := exec_enable s
  have hen : (s.setEn true).en = true := s.setEn_en true
  refine ⟨fun hnone => ?_, fun i hi => ?_⟩
  · rw [henable, doFlush_of_noneWins hen hnone]
    rfl
  · rw [henable, doFlush_of_wins hen hi]
    rfl

/-- Settles O32: DISABLE writes the latch and answers the default response; no flush follows. -/
theorem disableEffect : Obligations.DisableEffect := by
  unfold Obligations.DisableEffect
  exact ⟨by decide, exec_disable⟩

/-- Settles O33: RDPEND answers `pend` as a byte, in each of its two values. -/
theorem rdpendEffect : Obligations.RdpendEffect := by
  unfold Obligations.RdpendEffect
  refine ⟨by decide, fun s => ⟨fun hset => ?_, fun hclear => ?_⟩⟩
  · have hbyte : boolByte s.pend = 0x01#8 := congrArg boolByte hset
    rw [exec_rdpend, hbyte]
    rfl
  · have hbyte : boolByte s.pend = 0x00#8 := congrArg boolByte hclear
    rw [exec_rdpend, hbyte]
    rfl

end

section
/-! SUPPORT. The register space bit by bit: what a register reads as (10_state.md R28, R29), what WRREQ's
word and write mean (42_registers.md R143), and the answer of a flush and of a nested flush. -/

namespace Sys2Proof.Machine

variable {s : State} {i k : Source}

/-! ### The register values -/

@[simp] theorem getLsbD_readRegister_req (s : State) (i : Source) :
    (readRegister .req s).getLsbD i.index = flag s.req i := by
  have hconst : (0xE0#8).getLsbD i.index = false := by cases i <;> decide
  have hi : i.index < 8 := i.index_lt.trans (by decide)
  simp only [readRegister, zext8, flag, BitVec.getLsbD_or, BitVec.getLsbD_setWidth, hconst, hi,
    decide_true, Bool.true_and, Bool.false_or]

@[simp] theorem getLsbD_readRegister_msk (s : State) (i : Source) :
    (readRegister .msk s).getLsbD i.index = !flag s.msk i := by
  have hconst : (0x1F#5).getLsbD i.index = true := by cases i <;> decide
  have hi : i.index < 8 := i.index_lt.trans (by decide)
  simp only [readRegister, zext8, flag, BitVec.getLsbD_setWidth, BitVec.getLsbD_and,
    BitVec.getLsbD_not, hconst, hi, i.index_lt, decide_true, Bool.true_and, Bool.and_true]

/-- Above the five flags the request register reads its constant's bits (R28). -/
theorem getLsbD_readRegister_req_of_le {n : Nat} (s : State) (hn : 5 ≤ n) :
    (readRegister .req s).getLsbD n = (0xE0#8).getLsbD n := by
  simp [readRegister, zext8, BitVec.getLsbD_of_ge s.req n hn]

/-- Above the five flags the mask register reads 0 (R29). -/
theorem getLsbD_readRegister_msk_of_le {n : Nat} (s : State) (hn : 5 ≤ n) :
    (readRegister .msk s).getLsbD n = false := by
  rw [readRegister, zext8, BitVec.getLsbD_setWidth, BitVec.getLsbD_of_ge _ n hn, Bool.and_false]

/-! ### WRREQ -/

/-- The word 0x70dd, for each of the 256 data values (30_encoding.md R72). -/
theorem decode_wrreqWord (x : Byte) :
    decode (0x7000#16 ||| x.setWidth 16) = .command (.wrreq x) := by
  revert x; decide

/-- A WRREQ that fails one of the two conditions of R143 keeps `pend`. -/
theorem pendAfterWrite_of_not_posts {e : Bool} {x : Byte} (p : Bool)
    (h : e = false ∨ x &&& 0x1F#8 = 0#8) : pendAfterWrite e p x = p := by
  by_contra hne
  obtain ⟨-, hen, hx⟩ := pendAfterWrite_ne hne
  obtain hdis | hzero := h
  · simp [hen] at hdis
  · exact hx hzero

/-! ### The answer of a flush, and REQUEST's nested flush -/

theorem flushAndRespond_resp_of_wins (hen : s.en = true) (hi : Wins s.req s.msk i) :
    (flushAndRespond s).resp = some { deliver := some i.vec } := by
  rw [flushAndRespond_resp, doFlush_of_wins hen hi]

/-- REQUEST while enabled posts its source and flushes. -/
theorem exec_request_enabled {src : BitVec 3} (hen : s.en = true) (hk : src.toNat = k.index) :
    exec (.request src) s = .next (flushAndRespond (s.postRequest k)) := by
  obtain ⟨hbad, -⟩ | ⟨_, -, hdis, -⟩ | ⟨j, hj, -, hx⟩ := execRequest_cases src s
  · have := k.index_lt
    omega
  · simp [hen] at hdis
  · rwa [exec_request, Source.index_injective (hk.symm.trans hj)]

end Sys2Proof.Machine
end

section
/-! PROOFS. The register commands RDREQ, WRREQ and RDMSK (42_registers.md R141, R143, R144, R146). -/

open Sys2Proof Sys2Proof.Machine

/-- Settles O35: the value is the request register's, read bit by bit. -/
theorem rdreqEffect : Obligations.RdreqEffect := by
  unfold Obligations.RdreqEffect
  refine ⟨by decide, fun s => ⟨readRegister .req s, exec_rdreq s, getLsbD_readRegister_req s, ?_⟩⟩
  have hhigh := fun n => getLsbD_readRegister_req_of_le (n := n) s
  exact ⟨hhigh 5 (by decide), hhigh 6 (by decide), hhigh 7 (by decide)⟩

/-- Settles O37: the value is the mask register's, read bit by bit. -/
theorem rdmskEffect : Obligations.RdmskEffect := by
  unfold Obligations.RdmskEffect
  refine ⟨by decide, fun s => ⟨readRegister .msk s, exec_rdmsk s, getLsbD_readRegister_msk s, ?_⟩⟩
  have hhigh := fun n => getLsbD_readRegister_msk_of_le (n := n) s
  exact ⟨hhigh 5 (by decide), hhigh 6 (by decide), hhigh 7 (by decide)⟩

/-- Settles O36: WRREQ writes the flags of its data, and `pend` in the two cases of its condition. -/
theorem wrreqEffect : Obligations.WrreqEffect := by
  unfold Obligations.WrreqEffect
  refine fun x => ⟨decode_wrreqWord x, fun s =>
    ⟨_, exec_wrreq x s, flag_reqOfData x, fun hen hx => ?_, fun hkeep => ?_, rfl, rfl⟩⟩
  · show pendAfterWrite s.en s.pend x = true
    rw [hen, pendAfterWrite_of_posts s.pend hx]
  · exact pendAfterWrite_of_not_posts s.pend hkeep

/-- Settles O40: WRREQ keeps `en` and the masks, so each of the three flushes sees the winner among what it
wrote. -/
theorem postedRequestWaitsForFlush : Obligations.PostedRequestWaitsForFlush := by
  unfold Obligations.PostedRequestWaitsForFlush
  refine fun s x => ⟨_, exec_wrreq x s, rfl, flag_reqOfData x, fun i hen hi => ?_, fun i hi => ?_,
    fun src k i hk hen hi => ?_⟩
  · exact ⟨_, exec_flush _, flushAndRespond_resp_of_wins hen hi⟩
  · exact ⟨_, exec_enable _, flushAndRespond_resp_of_wins (State.setEn_en _ true) hi⟩
  · exact ⟨_, exec_request_enabled hen hk, flushAndRespond_resp_of_wins hen hi⟩

end

section
/-! SUPPORT. Runs of any length: what a step takes off the host's words, and the induction over a run whose
words all meet a condition. -/

namespace Sys2Proof.Machine

variable {s t u : State} {i : Instr} {n : Nat}

/-- No command touches the words the host has still to apply. -/
theorem exec_cmds (h : exec i s = .next t) : t.cmds = s.cmds := by
  cases i with
  | request src =>
    obtain ⟨-, hx⟩ | ⟨_, -, -, hx⟩ | ⟨_, -, -, hx⟩ := execRequest_cases src s <;>
      cases hx.symm.trans h <;> simp
  | flush | enable => cases h; simp
  | disable | rdpend | rdreq | wrreq | rdmsk | wrmsk => cases h; rfl

/-- A step takes one word off the host's words, if there is one (60_exceptions.md R177, R179). -/
theorem step_cmds (h : step s = .next t) : t.cmds = s.cmds.tail := by
  obtain ⟨f, -, hst⟩ | ⟨-, hc, hst⟩ | ⟨w, rest, i, -, hc, -, hst⟩ | ⟨w, rest, why, -, hc, -, hst⟩ :=
    step_cases s
  · cases hst.symm.trans h
  · cases hst.symm.trans h; simp [hc]
  · simpa [hc] using exec_cmds (hst.symm.trans h)
  · cases hst.symm.trans h; simp [hc]

/-- A run of one more step that ends in a next state is a step to a next state and the run from there. -/
theorem run_succ_eq_next {M : Host.Core} {s u : M.State} (h : M.run (n + 1) s = .next u) :
    ∃ t, M.step s = .next t ∧ M.run n t = .next u := by
  unfold Host.Core.run at h
  split at h
  · next t hst => exact ⟨t, hst, h⟩
  · cases h
  · cases h

/-- What every step keeps whose word, if there is one, meets `Q`, a run keeps whose words all meet `Q`. -/
theorem run_keeps {P : State → Prop} {Q : Word → Prop}
    (hstep : ∀ s t, P s → (∀ w ∈ s.cmds.take 1, Q w) → step s = .next t → P t)
    (hs : P s) (hwords : ∀ w ∈ s.cmds.take n, Q w) (hrun : core.run n s = .next u) : P u := by
  induction n generalizing s with
  | zero => cases hrun; exact hs
  | succ n ih =>
    obtain ⟨t, hst, hrest⟩ := run_succ_eq_next hrun
    have hfirst : ∀ w ∈ s.cmds.take 1, Q w :=
      fun w hw => hwords w (List.take_subset_take_left _ (Nat.le_add_left 1 n) hw)
    have hlater : ∀ w ∈ t.cmds.take n, Q w := fun w hw => by
      have htail : w ∈ (s.cmds.take (n + 1)).tail := by
        rwa [List.tail_take_eq_take_tail, ← step_cmds hst]
      exact hwords w (List.mem_of_mem_tail htail)
    exact ih (hstep s t hs hfirst hst) hlater hrest

end Sys2Proof.Machine
end

section
/-! PROOFS. After DISABLE nothing is delivered until the next ENABLE (70_reset_and_hazards.md R195). -/

namespace Sys2Proof.Machine

variable {s t : State} {i : Instr}

/-- The latch is clear and the last command delivered nothing. -/
structure State.Quiet (s : State) : Prop where
  disabled : s.en = false
  undelivered : delivered s = false

/-- A flush with the latch clear delivers nothing and leaves it clear (40_arbiter.md R104). -/
theorem quiet_flushAndRespond (hen : s.en = false) : (flushAndRespond s).Quiet :=
  ⟨(flushAndRespond_en s).trans hen, by simp [delivered, doFlush_of_disabled hen]⟩

/-- With the latch clear, only ENABLE can set it or deliver. -/
theorem quiet_of_exec (hen : s.en = false) (hi : i ≠ .enable) (h : exec i s = .next t) :
    t.Quiet := by
  cases i with
  | request src =>
    obtain ⟨-, hx⟩ | ⟨_, -, -, hx⟩ | ⟨_, -, hen', -⟩ := execRequest_cases src s
    · cases hx.symm.trans h; exact ⟨hen, rfl⟩
    · cases hx.symm.trans h; exact ⟨hen, rfl⟩
    · simp [hen] at hen'
  | flush => cases h; exact quiet_flushAndRespond hen
  | enable => exact absurd rfl hi
  | disable => cases h; exact ⟨rfl, rfl⟩
  | rdpend | rdreq | wrreq | rdmsk | wrmsk => cases h; exact ⟨hen, rfl⟩

/-- A quiet state stays quiet over every step that applies no ENABLE. -/
theorem quiet_of_step (hs : s.Quiet) (hw : ∀ w ∈ s.cmds.take 1, decode w ≠ .command .enable)
    (h : step s = .next t) : t.Quiet := by
  obtain ⟨f, -, hst⟩ | ⟨-, -, hst⟩ | ⟨w, rest, i, -, hc, hd, hst⟩ | ⟨w, rest, why, -, -, -, hst⟩ :=
    step_cases s
  · cases hst.symm.trans h
  · cases hst.symm.trans h; exact hs
  · have hi : i ≠ .enable := fun hi => hw w (by simp [hc]) (hi ▸ hd)
    exact quiet_of_exec (s := s.setCmds rest) hs.disabled hi (hst.symm.trans h)
  · cases hst.symm.trans h; exact ⟨hs.disabled, rfl⟩

end Sys2Proof.Machine

open Sys2Proof Sys2Proof.Machine

/-- Settles O52: DISABLE makes the state quiet, and by induction over the run it stays so, as long as no
ENABLE is applied. -/
theorem noDeliveryUntilNextEnable : Obligations.NoDeliveryUntilNextEnable := by
  unfold Obligations.NoDeliveryUntilNextEnable
  intro s hf hc
  obtain ⟨rest, hst⟩ := step_of_nextCommand hf hc
  refine ⟨_, hst.trans (exec_disable _), rfl, fun n u hwords hrun => ?_⟩
  have hu : u.Quiet := run_keeps (fun _ _ => quiet_of_step) ⟨rfl, rfl⟩ hwords hrun
  exact ⟨hu.disabled, hu.undelivered⟩

end

section
/-! SUPPORT. The command word: its four fields as numbers (30_encoding.md R70), the fields of each command's
own word, and everything the decoder can answer, said once (R72, R75 to R77). -/

namespace Sys2Proof

variable {w : Word} {i : Instr}

/-! ### The fields of a word as numbers -/

theorem toNat_fieldOp (w : Word) : (fieldOp w).toNat = w.toNat / 4096 := by
  rw [fieldOp, BitVec.extractLsb'_toNat, Nat.shiftRight_eq_div_pow]
  omega

theorem toNat_fieldZ (w : Word) : (fieldZ w).toNat = w.toNat / 2048 % 2 := by
  rw [fieldZ, BitVec.extractLsb'_toNat, Nat.shiftRight_eq_div_pow]

theorem toNat_fieldSrc (w : Word) : (fieldSrc w).toNat = w.toNat / 256 % 8 := by
  rw [fieldSrc, BitVec.extractLsb'_toNat, Nat.shiftRight_eq_div_pow]

theorem toNat_fieldData (w : Word) : (fieldData w).toNat = w.toNat % 256 := by
  rw [fieldData, BitVec.extractLsb'_toNat, Nat.shiftRight_zero]

/-- The must-be-zero bits of the two writes are `z` and `src`. -/
theorem extract_z_src_eq_zero_iff : w.extractLsb' 8 4 = 0#4 ↔ fieldZ w = 0#1 ∧ fieldSrc w = 0#3 := by
  simp only [← BitVec.toNat_inj, toNat_fieldZ, toNat_fieldSrc, BitVec.extractLsb'_toNat,
    Nat.shiftRight_eq_div_pow, BitVec.toNat_ofNat]
  omega

/-- The must-be-zero bits of an operand-free operation are `z`, `src` and `data`. -/
theorem restZero_iff :
    restZero w = true ↔ fieldZ w = 0#1 ∧ fieldSrc w = 0#3 ∧ fieldData w = 0#8 := by
  rw [restZero, beq_iff_eq]
  simp only [← BitVec.toNat_inj, toNat_fieldZ, toNat_fieldSrc, toNat_fieldData,
    BitVec.extractLsb'_toNat, Nat.shiftRight_zero, BitVec.toNat_ofNat]
  omega

/-! ### The fields of a command's word -/

/-- Appending fields adds up their values, each at its own place. -/
theorem toNat_append_eq_add {m n : Nat} (x : BitVec m) (y : BitVec n) :
    (x ++ y).toNat = x.toNat * 2 ^ n + y.toNat := by
  rw [BitVec.toNat_append, ← Nat.shiftLeft_add_eq_or_of_lt y.isLt, Nat.shiftLeft_eq]

section CommandWord

variable (op : Op) (src : BitVec 3) (data : Byte)

theorem toNat_commandWord : (commandWord op src data).toNat =
    op.code.toNat * 4096 + src.toNat * 256 + data.toNat := by
  simp only [commandWord, toNat_append_eq_add, BitVec.toNat_ofNat]
  omega

@[simp] theorem fieldOp_commandWord : fieldOp (commandWord op src data) = op.code := by
  rw [← BitVec.toNat_inj, toNat_fieldOp, toNat_commandWord]
  omega

@[simp] theorem fieldZ_commandWord : fieldZ (commandWord op src data) = 0#1 := by
  rw [← BitVec.toNat_inj, toNat_fieldZ, toNat_commandWord, BitVec.toNat_ofNat]
  omega

@[simp] theorem fieldSrc_commandWord : fieldSrc (commandWord op src data) = src := by
  rw [← BitVec.toNat_inj, toNat_fieldSrc, toNat_commandWord]
  omega

@[simp] theorem fieldData_commandWord : fieldData (commandWord op src data) = data := by
  rw [← BitVec.toNat_inj, toNat_fieldData, toNat_commandWord]
  omega

end CommandWord

/-- A word whose `z` is zero is the command word of its other three fields. -/
theorem commandWord_eq {op : Op} (hop : fieldOp w = op.code) (hz : fieldZ w = 0#1) :
    commandWord op (fieldSrc w) (fieldData w) = w := by
  have hz' := toNat_fieldZ w
  rw [hz, BitVec.toNat_ofNat] at hz'
  rw [← BitVec.toNat_inj, toNat_commandWord, ← hop, toNat_fieldOp, toNat_fieldSrc, toNat_fieldData]
  omega

/-! ### The decoder -/

/-- The decoder reads a command back from the command's own word. -/
theorem decode_encode (i : Instr) : decode (encode i) = .command i := by
  cases i <;> simp [decode, encode, checked, Op.code, restZero_iff, extract_z_src_eq_zero_iff]

/-- What follows a mapped opcode: the command whose word `w` is, or a must-be-zero bit that is set. -/
theorem checked_cases {zero : Bool} (h : zero = true → encode i = w) :
    (∃ j, encode j = w ∧ checked zero i = .command j) ∨ checked zero i = .illegal .mustBeZero := by
  cases zero with
  | false => exact .inr rfl
  | true => exact .inl ⟨i, h rfl, rfl⟩

theorem decode_of_mapped_opcode {op : Op} (hop : fieldOp w = op.code) :
    (∃ i, encode i = w ∧ decode w = .command i) ∨ decode w = .illegal .mustBeZero := by
  cases op with
  | request =>
    simp only [decode, hop, Op.code]
    refine checked_cases fun h => ?_
    obtain ⟨hz, hdata⟩ : fieldZ w = 0#1 ∧ fieldData w = 0#8 := by simpa using h
    rw [encode, ← hdata, commandWord_eq hop hz]
  | wrreq | wrmsk =>
    simp only [decode, hop, Op.code]
    refine checked_cases fun h => ?_
    obtain ⟨hz, hsrc⟩ := extract_z_src_eq_zero_iff.mp (beq_iff_eq.mp h)
    rw [encode, ← hsrc, commandWord_eq hop hz]
  | flush | enable | disable | rdpend | rdreq | rdmsk =>
    simp only [decode, hop, Op.code]
    refine checked_cases fun h => ?_
    obtain ⟨hz, hsrc, hdata⟩ := restZero_iff.mp h
    rw [encode, ← hsrc, ← hdata, commandWord_eq hop hz]

theorem Op.mem_all (op : Op) : op ∈ Op.all := by cases op <;> decide

/-- The mapped opcodes are 1 to 9 (30_encoding.md R72). -/
theorem exists_code_iff (v : BitVec 4) : (∃ op : Op, v = op.code) ↔ 1 ≤ v.toNat ∧ v.toNat ≤ 9 := by
  have key : ∀ v : BitVec 4, (∃ op ∈ Op.all, v = op.code) ↔ 1 ≤ v.toNat ∧ v.toNat ≤ 9 := by decide
  simpa [Op.mem_all] using key v

theorem decode_of_reserved_opcode (h : ¬∃ op : Op, fieldOp w = op.code) :
    decode w = .illegal .reservedOpcode := by
  rw [exists_code_iff] at h
  unfold decode
  split
  case h_10 => rfl
  all_goals
    next hop => exact absurd (by rw [hop]; decide) h

/-- Everything the decoder can answer: the command whose word it is, a must-be-zero bit that is set under an
opcode 1 to 9, or a reserved opcode. -/
theorem decode_cases (w : Word) :
    (∃ i, encode i = w ∧ decode w = .command i) ∨
    (decode w = .illegal .mustBeZero ∧ ∃ op : Op, fieldOp w = op.code) ∨
    (decode w = .illegal .reservedOpcode ∧ ¬∃ op : Op, fieldOp w = op.code) := by
  by_cases h : ∃ op : Op, fieldOp w = op.code
  · obtain ⟨op, hop⟩ := h
    exact (decode_of_mapped_opcode hop).imp id fun hd => .inl ⟨hd, op, hop⟩
  · exact .inr (.inr ⟨decode_of_reserved_opcode h, h⟩)

/-- A command has exactly one word (30_encoding.md R80). -/
theorem decode_eq_command_iff : decode w = .command i ↔ encode i = w := by
  constructor
  · intro h
    obtain ⟨j, hj, hd⟩ | ⟨hd, -⟩ | ⟨hd, -⟩ := decode_cases w <;> cases hd.symm.trans h
    exact hj
  · rintro rfl
    exact decode_encode i

theorem decode_eq_reservedOpcode_iff :
    decode w = .illegal .reservedOpcode ↔ ¬∃ op : Op, fieldOp w = op.code := by
  refine ⟨fun h => ?_, decode_of_reserved_opcode⟩
  rintro ⟨op, hop⟩
  obtain ⟨_, -, hd⟩ | hd := decode_of_mapped_opcode hop <;> cases h.symm.trans hd

/-- A word that is no command's word is Illegal. -/
theorem exists_illegal_of_forall_encode_ne (h : ∀ i, encode i ≠ w) : ∃ why, decode w = .illegal why := by
  obtain ⟨i, hi, -⟩ | ⟨hd, -⟩ | ⟨hd, -⟩ := decode_cases w
  · exact absurd hi (h i)
  · exact ⟨_, hd⟩
  · exact ⟨_, hd⟩

/-! ### The must-be-zero bits of a command's word (30_encoding.md R75) -/

theorem getLsbD_eleven_encode (i : Instr) : (encode i).getLsbD 11 = false := by
  cases i with
  | request src => revert src; decide
  | wrreq data | wrmsk data => revert data; decide
  | flush | enable | disable | rdpend | rdreq | rdmsk => decide

/-- Only REQUEST uses the `src` bits. -/
theorem encode_src_bits (i : Instr) : encode i &&& 0x0700#16 = 0#16 ∨ encode i >>> 12 = 0x1#16 := by
  cases i with
  | request src => exact .inr (by revert src; decide)
  | wrreq data | wrmsk data => exact .inl (by revert data; decide)
  | flush | enable | disable | rdpend | rdreq | rdmsk => exact .inl (by decide)

/-- Only the two writes use the `data` bits. -/
theorem encode_data_bits (i : Instr) :
    encode i &&& 0x00FF#16 = 0#16 ∨ encode i >>> 12 = 0x7#16 ∨ encode i >>> 12 = 0x9#16 := by
  cases i with
  | request src => exact .inl (by revert src; decide)
  | wrreq data => exact .inr (.inl (by revert data; decide))
  | wrmsk data => exact .inr (.inr (by revert data; decide))
  | flush | enable | disable | rdpend | rdreq | rdmsk => exact .inl (by decide)

/-! ### The opcode map -/

/-- A command's word selects its own row alone. -/
theorem tableRow_encode (i : Instr) : Laws.TableRow.Statement i :=
  match i with
  | .request src => Laws.TableRow.request src
  | .flush => Laws.TableRow.flush
  | .enable => Laws.TableRow.enable
  | .disable => Laws.TableRow.disable
  | .rdpend => Laws.TableRow.rdpend
  | .rdreq => Laws.TableRow.rdreq
  | .wrreq data => Laws.TableRow.wrreq data
  | .rdmsk => Laws.TableRow.rdmsk
  | .wrmsk data => Laws.TableRow.wrmsk data

/-- A row is selected field by field. -/
theorem fields_of_selects {r : OpcodeRow} (h : r.selects w = true) :
    fieldOp w &&& fieldOp r.mask = fieldOp r.pattern ∧
    fieldZ w &&& fieldZ r.mask = fieldZ r.pattern ∧
    fieldSrc w &&& fieldSrc r.mask = fieldSrc r.pattern ∧
    fieldData w &&& fieldData r.mask = fieldData r.pattern := by
  simp only [← (beq_iff_eq.mp h : w &&& r.mask = r.pattern), fieldOp, fieldZ, fieldSrc, fieldData,
    BitVec.extractLsb'_and, and_self]

/-- Each row fixes the opcode and `z`, and the two operand fields its operation does not use to zero. -/
theorem opcodeTable_fields : ∀ r ∈ opcodeTable,
    fieldOp r.mask = BitVec.allOnes 4 ∧ fieldOp r.pattern = r.op.code ∧
    fieldZ r.mask = BitVec.allOnes 1 ∧ fieldZ r.pattern = 0#1 ∧
    (r.op ≠ .request → fieldSrc r.mask = BitVec.allOnes 3 ∧ fieldSrc r.pattern = 0#3) ∧
    (r.op ≠ .wrreq → r.op ≠ .wrmsk →
      fieldData r.mask = BitVec.allOnes 8 ∧ fieldData r.pattern = 0#8) := by
  decide

/-- A command word whose unused operand fields are zero is a command's word. -/
theorem exists_encode_eq_commandWord {op : Op} {src : BitVec 3} {data : Byte}
    (hsrc : op ≠ .request → src = 0#3) (hdata : op ≠ .wrreq → op ≠ .wrmsk → data = 0#8) :
    ∃ i, encode i = commandWord op src data := by
  cases op with
  | request => exact ⟨.request src, by simp [encode, hdata]⟩
  | wrreq => exact ⟨.wrreq data, by simp [encode, hsrc]⟩
  | wrmsk => exact ⟨.wrmsk data, by simp [encode, hsrc]⟩
  | flush => exact ⟨.flush, by simp [encode, hsrc, hdata]⟩
  | enable => exact ⟨.enable, by simp [encode, hsrc, hdata]⟩
  | disable => exact ⟨.disable, by simp [encode, hsrc, hdata]⟩
  | rdpend => exact ⟨.rdpend, by simp [encode, hsrc, hdata]⟩
  | rdreq => exact ⟨.rdreq, by simp [encode, hsrc, hdata]⟩
  | rdmsk => exact ⟨.rdmsk, by simp [encode, hsrc, hdata]⟩

theorem exists_encode_of_selects {r : OpcodeRow} (hr : r ∈ opcodeTable) (h : r.selects w = true) :
    ∃ i, encode i = w := by
  obtain ⟨hop, hz, hsrc, hdata⟩ := fields_of_selects h
  obtain ⟨mop, pop, mz, pz, srcZero, dataZero⟩ := opcodeTable_fields r hr
  rw [mop, pop, BitVec.and_allOnes] at hop
  rw [mz, pz, BitVec.and_allOnes] at hz
  rw [← commandWord_eq hop hz]
  refine exists_encode_eq_commandWord (fun hne => ?_) (fun hne₁ hne₂ => ?_)
  · obtain ⟨mask, pattern⟩ := srcZero hne
    rwa [mask, pattern, BitVec.and_allOnes] at hsrc
  · obtain ⟨mask, pattern⟩ := dataZero hne₁ hne₂
    rwa [mask, pattern, BitVec.and_allOnes] at hdata

/-- A word that is Illegal is no command's word. -/
theorem encode_ne_of_illegal {why : Illegal} (h : decode w = .illegal why) (i : Instr) :
    encode i ≠ w := fun hi => by
  cases h.symm.trans (decode_eq_command_iff.mpr hi)

end Sys2Proof
end

section
/-! PROOFS. The encoding (30_encoding.md R72, R75 to R77, R80). -/

open Sys2Proof Sys2Proof.Machine

/-- Settles O9: each command's word has the opcode and the operand fields the decoder reads. -/
theorem decodeOfEncode : Obligations.DecodeOfEncode := by
  unfold Obligations.DecodeOfEncode
  exact decode_encode

/-- Settles O10: the decoder answers a command only for the command's own word. -/
theorem encodeOfDecode : Obligations.EncodeOfDecode := by
  unfold Obligations.EncodeOfDecode
  exact fun _ _ => decode_eq_command_iff.mp

/-- Settles O11: a word that decodes is its command's own, whose row is known; a selected word is some
command's. -/
theorem opcodeTableMatchesDecoder : Obligations.OpcodeTableMatchesDecoder := by
  unfold Obligations.OpcodeTableMatchesDecoder
  refine fun w => ⟨fun i h => ?_, fun why h => ?_⟩
  · obtain rfl := decode_eq_command_iff.mp h
    exact tableRow_encode i
  · refine List.filter_eq_nil_iff.mpr fun r hr hsel => ?_
    obtain ⟨i, hi⟩ := exists_encode_of_selects hr hsel
    exact encode_ne_of_illegal h i hi

/-- Settles O12: just the opcodes 1 to 9 are mapped. -/
theorem reservedOpcodesAreIllegal : Obligations.ReservedOpcodesAreIllegal := by
  unfold Obligations.ReservedOpcodesAreIllegal
  intro w
  rw [decode_eq_reservedOpcode_iff, exists_code_iff, toNat_fieldOp]
  omega

/-- Settles O13: no command's word sets bit 11, or a bit of a field its operation does not use. -/
theorem mustBeZeroBitsAreIllegal : Obligations.MustBeZeroBitsAreIllegal := by
  unfold Obligations.MustBeZeroBitsAreIllegal
  refine fun w => ⟨fun hz => ?_, fun hsrc hop => ?_, fun hdata hop₁ hop₂ => ?_⟩
  all_goals
    refine exists_illegal_of_forall_encode_ne fun i hi => ?_
    subst hi
  · exact Bool.false_ne_true ((getLsbD_eleven_encode i).symm.trans hz)
  · exact (encode_src_bits i).elim hsrc hop
  · exact (encode_data_bits i).elim hdata (Or.rec hop₁ hop₂)

/-- Settles O14: the decoder evaluates each of the seven words. -/
theorem sampleWordsDecode : Obligations.SampleWordsDecode := by
  unfold Obligations.SampleWordsDecode
  decide

end

section
/-! SUPPORT. What one command and one step can do to the latch, the fault mark and the response: the rules
that the runs and the invariant share (00_scope.md R8, 60_exceptions.md R160 to R163, R177). -/

namespace Sys2Proof.Machine

variable {s t : State} {i : Instr} {w : Word} {rest : List Word}

/-! ### One command -/

/-- REQUEST of a source above 4 raises its fault (60_exceptions.md R163). -/
theorem exec_request_invalid {src : BitVec 3} (s : State) (h : 4 < src.toNat) :
    exec (.request src) s = .next (raiseFault (.invalidSource (encode (.request src))) s) := by
  obtain ⟨-, hx⟩ | ⟨k, hk, -⟩ | ⟨k, hk, -⟩ := execRequest_cases src s
  · exact hx
  · have := k.index_lt
    omega
  · have := k.index_lt
    omega

/-- A REQUEST that keeps the contract names a source (30_encoding.md R73). -/
theorem exists_index_of_wellFormed {src : BitVec 3} (h : (Instr.request src).wellFormed = true) :
    ∃ k : Source, src.toNat = k.index := by
  have hle : src.toNat ≤ 4 := of_decide_eq_true h
  cases hk : srcOperand src with
  | none => exact absurd (srcOperand_eq_none.mp hk) hle.not_gt
  | some k => exact ⟨k, srcOperand_eq_some.mp hk⟩

/-- Everything a command can do to the fault mark: it leaves it and returns a response, or it is a REQUEST
of a source above 4 and raises the fault that records its own word. -/
theorem exec_fault_cases (i : Instr) (s : State) :
    (i.wellFormed = true ∧
      ∃ t, exec i s = .next t ∧ t.faulted = s.faulted ∧ ∃ r, t.resp = some r) ∨
    (i.wellFormed = false ∧
      ∃ src, i = .request src ∧ 4 < src.toNat ∧
        exec i s = .next (raiseFault (.invalidSource (encode i)) s)) := by
  cases i with
  | request src =>
    cases hwf : (Instr.request src).wellFormed with
    | false =>
      have hgt : 4 < src.toNat := not_le.mp (of_decide_eq_false hwf)
      exact .inr ⟨rfl, src, rfl, hgt, exec_request_invalid s hgt⟩
    | true =>
      obtain ⟨k, hk⟩ := exists_index_of_wellFormed hwf
      cases hen : s.en with
      | false => exact .inl ⟨rfl, _, exec_request_disabled hen hk, rfl, _, rfl⟩
      | true => exact .inl ⟨rfl, _, exec_request_enabled hen hk, flushAndRespond_faulted _, _, rfl⟩
  | flush => exact .inl ⟨rfl, _, exec_flush s, flushAndRespond_faulted s, _, rfl⟩
  | enable => exact .inl ⟨rfl, _, exec_enable s, flushAndRespond_faulted _, _, rfl⟩
  | disable | rdpend | rdreq | wrreq | rdmsk | wrmsk => exact .inl ⟨rfl, _, rfl, rfl, _, rfl⟩

/-- Only ENABLE and DISABLE write the latch (10_state.md R21). -/
theorem exec_en (hen : i ≠ .enable) (hdis : i ≠ .disable) (h : exec i s = .next t) : t.en = s.en := by
  cases i with
  | request src =>
    obtain ⟨-, hx⟩ | ⟨_, -, -, hx⟩ | ⟨_, -, -, hx⟩ := execRequest_cases src s <;>
      cases hx.symm.trans h <;> simp
  | flush => cases h; exact flushAndRespond_en s
  | enable => exact absurd rfl hen
  | disable => exact absurd rfl hdis
  | rdpend | rdreq | wrreq | rdmsk | wrmsk => cases h; rfl

/-- Only a flush delivers (40_arbiter.md R102). -/
theorem delivered_of_not_performsFlush (hfl : performsFlush i s = false) (h : exec i s = .next t) :
    delivered t = false := by
  cases i with
  | request src =>
    obtain ⟨-, hx⟩ | ⟨_, -, -, hx⟩ | ⟨k, hk, hen, -⟩ := execRequest_cases src s
    · cases hx.symm.trans h; rfl
    · cases hx.symm.trans h; rfl
    · have := k.index_lt
      simp [performsFlush, Instr.wellFormed, hen] at hfl
      omega
  | flush | enable => cases hfl
  | disable | rdpend | rdreq | wrreq | rdmsk | wrmsk => cases h; rfl

/-! ### One step -/

theorem step_of_faulted {f : Fault} (h : s.faulted = some f) : step s = .fault f := by
  simp only [step, h]

/-- Only a model that is not faulted steps to a next state. -/
theorem faulted_of_step_next (h : step s = .next t) : s.faulted = none := by
  cases hf : s.faulted with
  | none => rfl
  | some f => cases (step_of_faulted hf).symm.trans h

theorem step_of_no_command (hf : s.faulted = none) (hc : s.cmds = []) : step s = .next s := by
  simp only [step, hf, fetch, hc, idle]

theorem step_of_command (hf : s.faulted = none) (hc : s.cmds = w :: rest)
    (hd : decode w = .command i) : step s = exec i (s.setCmds rest) := by
  simp only [step, hf, fetch, hc, hd]

theorem step_of_illegal {why : Illegal} (hf : s.faulted = none) (hc : s.cmds = w :: rest)
    (hd : decode w = .illegal why) :
    step s = .next (raiseFault (.illegalCommand w) (s.setCmds rest)) := by
  simp only [step, hf, fetch, hc, hd]

theorem legalWord_of_command (hd : decode w = .command i) : legalWord w = i.wellFormed := by
  simp only [legalWord, hd]

theorem legalWord_of_illegal {why : Illegal} (hd : decode w = .illegal why) : legalWord w = false := by
  simp only [legalWord, hd]

/-- A legal word is applied, and no fault is marked. -/
theorem step_of_legalWord (hf : s.faulted = none) (hc : s.cmds = w :: rest)
    (hw : legalWord w = true) : ∃ t, step s = .next t ∧ t.faulted = none := by
  cases hd : decode w with
  | illegal why => simp [legalWord_of_illegal hd] at hw
  | command i =>
    rw [step_of_command hf hc hd]
    obtain ⟨-, t, hx, hft, -⟩ | ⟨hbad, -⟩ := exec_fault_cases i (s.setCmds rest)
    · exact ⟨t, hx, hft.trans hf⟩
    · simp [← legalWord_of_command hd, hw] at hbad

/-- A word that breaks the contract raises the fault that records it (60_exceptions.md R161). -/
theorem step_of_not_legalWord (hf : s.faulted = none) (hc : s.cmds = w :: rest)
    (hw : legalWord w = false) :
    ∃ f : Fault, f.word = w ∧ f.agrees ∧ step s = .next (raiseFault f (s.setCmds rest)) := by
  cases hd : decode w with
  | illegal why => exact ⟨.illegalCommand w, rfl, ⟨why, hd⟩, step_of_illegal hf hc hd⟩
  | command i =>
    obtain ⟨hwf, -⟩ | ⟨-, src, rfl, hgt, hx⟩ := exec_fault_cases i (s.setCmds rest)
    · simp [legalWord_of_command hd, hwf] at hw
    · rw [decode_eq_command_iff.mp hd] at hx
      exact ⟨.invalidSource w, rfl, ⟨src, hd, hgt⟩, (step_of_command hf hc hd).trans hx⟩

/-- Everything a step can do to the fault mark: stop with the fault already marked; answer a state with no
fault; or mark the fault of a word that breaks the contract. -/
theorem step_fault_cases (s : State) :
    (∃ f, s.faulted = some f ∧ step s = .fault f) ∨
    (s.faulted = none ∧ ∃ t, step s = .next t ∧ t.faulted = none) ∨
    (s.faulted = none ∧ ∃ (f : Fault) (rest : List Word), s.cmds = f.word :: rest ∧
      legalWord f.word = false ∧ f.agrees ∧ step s = .next (raiseFault f (s.setCmds rest))) := by
  cases hf : s.faulted with
  | some f => exact .inl ⟨f, rfl, step_of_faulted hf⟩
  | none =>
    refine .inr ?_
    cases hc : s.cmds with
    | nil => exact .inl ⟨rfl, s, step_of_no_command hf hc, hf⟩
    | cons w rest =>
      cases hw : legalWord w with
      | true => exact .inl ⟨rfl, step_of_legalWord hf hc hw⟩
      | false =>
        obtain ⟨f, rfl, hagrees, hst⟩ := step_of_not_legalWord hf hc hw
        exact .inr ⟨rfl, f, rest, rfl, hw, hagrees, hst⟩

/-- A step that applies a command delivers only if that command performs a flush. -/
theorem delivered_of_not_nextPerformsFlush (hc : s.cmds ≠ []) (hfl : nextPerformsFlush s = false)
    (h : step s = .next t) : delivered t = false := by
  obtain ⟨f, -, hst⟩ | ⟨-, hnil, -⟩ | ⟨w, rest, i, -, hw, hd, hst⟩ | ⟨w, rest, why, -, -, -, hst⟩ :=
    step_cases s
  · cases hst.symm.trans h
  · exact absurd hnil hc
  · have hnext : nextCommand s = some i := by simp [nextCommand_of_cons hw, hd, Decoded.command?]
    have hfl' : performsFlush i (s.setCmds rest) = false := by
      rw [performsFlush_setCmds]
      simpa [nextPerformsFlush, hnext] using hfl
    exact delivered_of_not_performsFlush hfl' (hst.symm.trans h)
  · cases hst.symm.trans h; rfl

end Sys2Proof.Machine
end

section
/-! PROOFS. The invariant of the whole machine (60_exceptions.md R160; 40_arbiter.md R102, R106). -/

namespace Sys2Proof.Machine

variable {s t : State} {i : Instr}

/-- A response with neither a wake signal nor a delivery says nothing about the state. -/
theorem Response.agrees_of_quiet {r : Response} (s : State) (hwake : r.wake = false)
    (hdel : r.deliver = none) : r.agrees s := by
  refine ⟨fun h => ?_, fun v h => ?_⟩
  · simp [hwake] at h
  · simp [hdel] at h

/-- What a flush answers agrees with the state it leaves, in each of its cases. -/
theorem doFlush_agrees (s : State) : (doFlush s).2.agrees (flushAndRespond s) := by
  obtain ⟨i, hen, hi, h⟩ | ⟨-, -, h⟩ | ⟨hen, h⟩ := doFlush_cases s
  · refine ⟨fun hwake => ?_, fun v hv => ?_⟩
    · simp [h] at hwake
    · obtain rfl : i.vec = v := by simpa [h] using hv
      exact ⟨by simp [hen], flushAndRespond_pend s, doFlush_rdata s, i, rfl, by simp [h],
        by simp [(flag_of_select hi).2]⟩
  · exact Response.agrees_of_quiet _ (by rw [h]) (by rw [h])
  · refine ⟨fun hwake => ?_, fun v hv => ?_⟩
    · have hreq : anyRequest s.req = true := by simpa [h] using hwake
      exact ⟨by simp [hen], by simpa [h, anyRequest] using hreq, flushAndRespond_pend s, by rw [h],
        doFlush_rdata s⟩
    · simp [h] at hv

/-- The response of every command agrees with the state the command leaves. -/
theorem exec_response_agrees {r : Response} (h : exec i s = .next t) (hr : t.resp = some r) :
    r.agrees t := by
  cases i with
  | request src =>
    obtain ⟨-, hx⟩ | ⟨_, -, -, hx⟩ | ⟨_, -, -, hx⟩ := execRequest_cases src s <;>
      cases hx.symm.trans h
    · cases hr
    · cases hr; exact Response.agrees_of_quiet _ rfl rfl
    · cases hr; exact doFlush_agrees _
  | flush | enable => cases h; cases hr; exact doFlush_agrees _
  | disable | rdpend | rdreq | wrreq | rdmsk | wrmsk =>
    cases h; cases hr; exact Response.agrees_of_quiet _ rfl rfl

end Sys2Proof.Machine

open Sys2Proof Sys2Proof.Machine

/-- Settles O50: a step marks a fault only as the decoder has it, and every response is a command's. -/
theorem consistencyKeptByEveryStep : Obligations.ConsistencyKeptByEveryStep := by
  unfold Obligations.ConsistencyKeptByEveryStep
  refine fun s t hs h => ⟨fun f hft => ?_, fun r hr => ?_⟩
  · obtain ⟨_, -, hst⟩ | ⟨-, u, hst, hfu⟩ | ⟨-, g, rest, -, -, hg, hst⟩ := step_fault_cases s <;>
      cases hst.symm.trans h
    · simp [hfu] at hft
    · cases hft; exact hg
  · obtain ⟨_, -, hst⟩ | ⟨-, -, hst⟩ | ⟨_, _, _, -, -, -, hst⟩ | ⟨_, _, _, -, -, -, hst⟩ := step_cases s
    · cases hst.symm.trans h
    · cases hst.symm.trans h; exact hs.response_agrees r hr
    · exact exec_response_agrees (hst.symm.trans h) hr
    · cases hst.symm.trans h; cases hr

/-- Settles O51: reset marks no fault and has returned no response. -/
theorem resetIsConsistent : Obligations.ResetIsConsistent := by
  unfold Obligations.ResetIsConsistent
  exact fun mask => ⟨fun f h => by simp at h, fun r h => by simp at h⟩

end

section
/-! PROOFS. Runs: the host's duty after a delivery (60_exceptions.md R170, R173), and how a run ends (R160,
R161, R179). -/

namespace Sys2Proof.Machine

variable {s t u : State} {n : Nat}

/-! ### The host's duty -/

/-- A duty met over some steps is met over fewer. -/
theorem dutyMet_of_le {m : Nat} {owed : Bool} (hmn : m ≤ n) (h : dutyMet n owed s = true) :
    dutyMet m owed s = true := by
  induction m generalizing n owed s with
  | zero => rfl
  | succ m ih =>
    obtain ⟨n, rfl⟩ := Nat.exists_eq_add_of_le' (Nat.one_le_of_lt hmn)
    cases hst : step s with
    | next t =>
      rw [dutyMet_succ_of_next _ _ hst, Bool.and_eq_true] at h ⊢
      exact ⟨h.1, ih (Nat.le_of_succ_le_succ hmn) h.2⟩
    | fault f => simp only [dutyMet, hst]
    | refused r => simp only [dutyMet, hst]

/-- DISABLE pays the duty and leaves the state quiet; after any other command it is still owed. -/
theorem quiet_or_owedAfter (h : step s = .next t) :
    t.Quiet ∨ owedAfter true s t = true := by
  by_cases hdis : nextCommand s = some .disable
  · obtain ⟨rest, hst⟩ := step_of_nextCommand (faulted_of_step_next h) hdis
    cases (hst.trans (exec_disable _)).symm.trans h
    exact .inl ⟨rfl, rfl⟩
  · refine .inr ?_
    unfold owedAfter
    split
    · next i hi => rw [if_neg (fun h' => hdis (hi.trans (congrArg some h'))), Bool.true_or]
    · rfl

/-- While a DISABLE is owed and the host meets its duty, no command delivers; once it is paid, none does
before an ENABLE. -/
theorem undelivered_of_dutyMet (hduty : dutyMet n true s = true) (hpos : 0 < n)
    (hn : n ≤ s.cmds.length) (hwords : ∀ w ∈ s.cmds.take n, decode w ≠ .command .enable)
    (hrun : core.run n s = .next u) : delivered u = false := by
  induction n generalizing s with
  | zero => exact absurd hpos (lt_irrefl 0)
  | succ n ih =>
    obtain ⟨t, hst, hrest⟩ := run_succ_eq_next hrun
    obtain ⟨w, rest, hc⟩ := List.exists_cons_of_length_pos (Nat.zero_lt_of_lt hn)
    have htcmds : t.cmds = rest := by rw [step_cmds hst, hc, List.tail_cons]
    obtain ⟨hfl, hduty'⟩ :
        nextPerformsFlush s = false ∧ dutyMet n (owedAfter true s t) t = true := by
      simpa [dutyMet_succ_of_next n true hst] using hduty
    have hundelivered : delivered t = false :=
      delivered_of_not_nextPerformsFlush (by simp [hc]) hfl hst
    have hwords' : ∀ w ∈ t.cmds.take n, decode w ≠ .command .enable := fun w hw =>
      hwords w (by rw [hc, List.take_succ_cons, ← htcmds]; exact List.mem_cons_of_mem _ hw)
    obtain rfl | hpos' := Nat.eq_zero_or_pos n
    · cases hrest; exact hundelivered
    obtain hquiet | howed := quiet_or_owedAfter hst
    · exact (run_keeps (fun _ _ => quiet_of_step) hquiet hwords' hrest).undelivered
    · have hlen : n ≤ t.cmds.length := by
        rw [hc, List.length_cons] at hn
        rw [htcmds]
        exact Nat.le_of_succ_le_succ hn
      rw [howed] at hduty'
      exact ih hduty' hpos' hlen hwords' hrest

/-! ### How a run ends -/

theorem run_succ_of_next (n : Nat) (h : step s = .next t) : core.run (n + 1) s = core.run n t := by
  simp only [Host.Core.run, show core.step s = .next t from h]

theorem run_succ_of_faulted {f : Fault} (n : Nat) (h : s.faulted = some f) :
    core.run (n + 1) s = .fault f := by
  simp only [Host.Core.run, show core.step s = .fault f from step_of_faulted h]

/-- A run of legal words applies them all (60_exceptions.md R179). -/
theorem run_of_legalWords {ws : List Word} (hc : s.cmds = ws) (hf : s.faulted = none)
    (hws : ∀ w ∈ ws, legalWord w = true) :
    ∃ t, core.run ws.length s = .next t ∧ successfulEnd t = true := by
  induction ws generalizing s with
  | nil => exact ⟨s, rfl, by simp [successfulEnd, hc, hf]⟩
  | cons w rest ih =>
    rw [List.forall_mem_cons] at hws
    obtain ⟨t, hst, hft⟩ := step_of_legalWord hf hc hws.1
    have hct : t.cmds = rest := by rw [step_cmds hst, hc, List.tail_cons]
    rw [List.length_cons, run_succ_of_next _ hst]
    exact ih hct hft hws.2

/-- A run that holds a word that breaks the contract ends in the fault of the first such word. -/
theorem run_of_not_legalWord {ws : List Word} (hc : s.cmds = ws) (hf : s.faulted = none)
    (hws : ∃ w ∈ ws, legalWord w = false) :
    ∃ f : Fault, core.run (ws.length + 1) s = .fault f ∧ f.word ∈ ws ∧ legalWord f.word = false := by
  induction ws generalizing s with
  | nil => simp at hws
  | cons w rest ih =>
    rw [List.length_cons]
    cases hw : legalWord w with
    | false =>
      obtain ⟨f, rfl, -, hst⟩ := step_of_not_legalWord hf hc hw
      refine ⟨f, ?_, List.mem_cons_self, hw⟩
      rw [run_succ_of_next _ hst, run_succ_of_faulted _ (raiseFault_faulted _ f)]
    | true =>
      obtain ⟨t, hst, hft⟩ := step_of_legalWord hf hc hw
      have hct : t.cmds = rest := by rw [step_cmds hst, hc, List.tail_cons]
      obtain ⟨f, hrun, hmem, hbad⟩ := ih hct hft (by simpa [hw] using hws)
      exact ⟨f, (run_succ_of_next _ hst).trans hrun, List.mem_cons_of_mem _ hmem, hbad⟩

end Sys2Proof.Machine

open Sys2Proof Sys2Proof.Machine

/-- Settles O53: the delivery owes a DISABLE, and the duty holds over the run, the first of the host's
commands. -/
theorem dutyPreventsSecondDelivery : Obligations.DutyPreventsSecondDelivery := by
  unfold Obligations.DutyPreventsSecondDelivery
  intro s u n hduty hdel hpos hn hwords hrun
  rw [HostDisablesOnDelivery, hdel] at hduty
  exact undelivered_of_dutyMet (dutyMet_of_le hn hduty) hpos hn hwords hrun

/-- Settles O54: by induction over the host's words. -/
theorem legalRunsEndWellAndOthersFault : Obligations.LegalRunsEndWellAndOthersFault := by
  unfold Obligations.LegalRunsEndWellAndOthersFault
  exact fun s hf => ⟨run_of_legalWords rfl hf, run_of_not_legalWord rfl hf⟩

end

section
/-! PROOFS. The step (00_scope.md R8; 30_encoding.md R70; 60_exceptions.md R160 to R162, R177), reset
(70_reset_and_hazards.md R190, R191), and what every command answers and leaves unchanged. -/

namespace Sys2Proof.Machine

variable {s t : State} {i : Instr}

/-! ### Placing a word -/

/-- Placing a word and taking it off again gives the state back. -/
theorem State.setCmds_pushCommand (s : State) (w : Word) : (s.pushCommand w).setCmds s.cmds = s := rfl

/-- A table row that reads as a command is placed as a word that decodes to it. -/
theorem withFetchWord_of_decodeTableWord {nbits v : Nat} (s : State)
    (h : decodeTableWord nbits v = some i) :
    ∃ w, decode w = .command i ∧ s.withFetchWord nbits v = s.pushCommand w := by
  cases hw : tableWord nbits v with
  | none => simp only [decodeTableWord, hw, reduceCtorEq] at h
  | some w =>
    simp only [decodeTableWord, hw] at h
    refine ⟨w, ?_, by simp only [State.withFetchWord, hw]⟩
    cases hd : decode w with
    | command j =>
      rw [hd, Decoded.command?] at h
      rw [Option.some.inj h]
    | illegal why =>
      rw [hd, Decoded.command?] at h
      cases h

/-! ### The latch over a step -/

theorem macroState_eq_of_en (h : t.en = s.en) : t.macroState = s.macroState := by
  rw [State.macroState, h, State.macroState]

theorem macroState_of_enabled (h : s.en = true) : s.macroState = .enabled := by
  simp [State.macroState, h]

theorem macroState_of_disabled (h : s.en = false) : s.macroState = .disabled := by
  simp [State.macroState, h]

/-- A step that applies neither ENABLE nor DISABLE leaves the latch. -/
theorem step_en (hen : nextCommand s ≠ some .enable) (hdis : nextCommand s ≠ some .disable)
    (h : step s = .next t) : t.en = s.en := by
  obtain ⟨_, -, hst⟩ | ⟨-, -, hst⟩ | ⟨w, rest, i, -, hc, hd, hst⟩ | ⟨_, _, _, -, -, -, hst⟩ :=
    step_cases s
  · cases hst.symm.trans h
  · cases hst.symm.trans h; rfl
  · rw [nextCommand_of_cons hc, hd, Decoded.command?, ne_eq, Option.some_inj] at hen hdis
    exact exec_en (s := s.setCmds rest) hen hdis (hst.symm.trans h)
  · cases hst.symm.trans h; rfl

theorem step_enable (hf : s.faulted = none) (hc : nextCommand s = some .enable) :
    ∃ t, step s = .next t ∧ t.en = true := by
  obtain ⟨rest, hst⟩ := step_of_nextCommand hf hc
  exact ⟨_, hst.trans (exec_enable _), flushAndRespond_en _⟩

theorem step_disable (hf : s.faulted = none) (hc : nextCommand s = some .disable) :
    ∃ t, step s = .next t ∧ t.en = false := by
  obtain ⟨rest, hst⟩ := step_of_nextCommand hf hc
  exact ⟨_, hst.trans (exec_disable _), rfl⟩

/-! ### The flush and `pend` -/

theorem State.setPend_self (s : State) : s.setPend s.pend = s := rfl

/-- Nothing a flush does or answers depends on `pend`, which it clears (10_state.md R22, R35). -/
theorem flushAndRespond_setPend (s : State) (b : Bool) :
    flushAndRespond (s.setPend b) = (flushAndRespond s).setPend false := by
  have hflush : doFlush (s.setPend b) = doFlush s := rfl
  have hpend : (flushAndRespond s).setPend false = flushAndRespond s := by
    conv_rhs => rw [← State.setPend_self (flushAndRespond s), flushAndRespond_pend]
  rw [hpend, flushAndRespond, hflush, flushAndRespond]

/-- Any other command than RDPEND answers the same whatever `pend` is, and leaves the same but for `pend`. -/
theorem exec_setPend (hi : i ≠ .rdpend) (s : State) (b : Bool) :
    ∃ t c, exec i s = .next t ∧ exec i (s.setPend b) = .next (t.setPend c) := by
  cases i with
  | request src =>
    by_cases hgt : 4 < src.toNat
    · exact ⟨_, b, exec_request_invalid s hgt, exec_request_invalid _ hgt⟩
    · obtain ⟨k, hk⟩ := exists_index_of_wellFormed (decide_eq_true (not_lt.mp hgt))
      cases hen : s.en with
      | false => exact ⟨_, b, exec_request_disabled hen hk, exec_request_disabled hen hk⟩
      | true =>
        have hx := exec_request_enabled (s := s.setPend b) hen hk
        exact ⟨_, false, exec_request_enabled hen hk,
          hx.trans (congrArg _ (flushAndRespond_setPend (s.postRequest k) b))⟩
  | flush => exact ⟨_, false, exec_flush s, congrArg _ (flushAndRespond_setPend s b)⟩
  | enable => exact ⟨_, false, exec_enable s, congrArg _ (flushAndRespond_setPend (s.setEn true) b)⟩
  | rdpend => exact absurd rfl hi
  | wrreq x => exact ⟨_, pendAfterWrite s.en b x, exec_wrreq x s, rfl⟩
  | disable | rdreq | rdmsk | wrmsk => exact ⟨_, b, rfl, rfl⟩

/-! ### What a command leaves unchanged -/

/-- A well-formed command leaves the fault mark. -/
theorem exec_faulted (hwf : i.wellFormed = true) (h : exec i s = .next t) : t.faulted = s.faulted := by
  obtain ⟨-, u, hx, hfu, -⟩ | ⟨hbad, -⟩ := exec_fault_cases i s
  · cases hx.symm.trans h; exact hfu
  · simp [hwf] at hbad

/-- Outside WRREQ, REQUEST and the flushes the request flags stay. -/
theorem exec_req (hwr : ∀ x, i ≠ .wrreq x) (hrq : ∀ src, i ≠ .request src)
    (hfl : performsFlush i s = false) (h : exec i s = .next t) : t.req = s.req := by
  obtain ⟨hfl', -⟩ | ⟨src, _, hi, -⟩ | ⟨x, hi, -⟩ | ⟨_, -, rfl⟩ | ⟨-, hreq, -⟩ := exec_next_cases h
  · simp [hfl] at hfl'
  · exact absurd hi (hrq src)
  · exact absurd hi (hwr x)
  · rfl
  · exact hreq

/-- Outside WRREQ a request flag stays, unless its source is REQUEST's or the one delivered. -/
theorem flag_exec_req {k : Source} (hwr : ∀ x, i ≠ .wrreq x)
    (hrq : ∀ src, i = .request src → src.toNat ≠ k.index)
    (hdel : t.resp ≠ some { deliver := some k.vec }) (h : exec i s = .next t) :
    flag t.req k = flag s.req k := by
  cases hs : flag s.req k with
  | false =>
    refine Bool.eq_false_iff.mpr fun ht => ?_
    obtain ⟨src, hi, hsrc⟩ | ⟨x, hi, -⟩ := exec_sets_flag h hs ht
    · exact hrq src hi hsrc
    · exact hwr x hi
  | true =>
    by_contra ht
    obtain ⟨-, hresp⟩ | ⟨x, hi, -⟩ := exec_clears_flag h hs (Bool.eq_false_iff.mpr ht)
    · exact hdel hresp
    · exact hwr x hi

end Sys2Proof.Machine

open Sys2Proof Sys2Proof.Machine

/-- Settles O3: the step fetches the word and runs what it decodes to. -/
theorem stepRunsDecodedCommand : Obligations.StepRunsDecodedCommand := by
  unfold Obligations.StepRunsDecodedCommand
  exact fun _ _ _ _ => step_of_command

/-- Settles O4: the placed word is fetched, and fetching it takes it off again. -/
theorem placedWordRunsNext : Obligations.PlacedWordRunsNext := by
  unfold Obligations.PlacedWordRunsNext
  intro s nbits v i hf h
  obtain ⟨w, hd, hplaced⟩ := withFetchWord_of_decodeTableWord s h
  rw [hplaced, step_of_command (s := s.pushCommand w) hf rfl hd, State.setCmds_pushCommand]

/-- Settles O5: the fault is raised on the state with the word taken off. -/
theorem illegalWordRaisesFault : Obligations.IllegalWordRaisesFault := by
  unfold Obligations.IllegalWordRaisesFault
  exact fun s w rest why hf hc hd => ⟨_, step_of_illegal hf hc hd, rfl, rfl, rfl, rfl, rfl⟩

/-- Settles O6: a step looks at the fault mark first. -/
theorem faultedModelTakesNoStep : Obligations.FaultedModelTakesNoStep := by
  unfold Obligations.FaultedModelTakesNoStep
  exact fun _ _ => step_of_faulted

/-- Settles O7: with no word to fetch the step stands still. -/
theorem noCommandNoMove : Obligations.NoCommandNoMove := by
  unfold Obligations.NoCommandNoMove
  exact fun _ => step_of_no_command

/-- Settles O8: by the cases of what a step can do to the fault mark. -/
theorem faultsComeFromBadWordsOnly : Obligations.FaultsComeFromBadWordsOnly := by
  unfold Obligations.FaultsComeFromBadWordsOnly
  intro s
  obtain ⟨f, hf, hst⟩ | ⟨hf, t, hst, hft⟩ | ⟨hf, f, rest, hc, hbad, -, hst⟩ := step_fault_cases s
  · simp [hf, hst]
  · refine ⟨by simp [hst], by simp [hf, hst], fun u g _ h hg => ?_⟩
    cases hst.symm.trans h
    simp [hft] at hg
  · refine ⟨by simp [hst], by simp [hf, hst], fun t g _ h hg => ?_⟩
    cases hst.symm.trans h
    cases hg
    exact ⟨rest, hc, hbad, rfl, rfl, rfl, rfl⟩

/-- Settles O43: a step that applies neither ENABLE nor DISABLE leaves the latch, and no register view reads
it. -/
theorem onlyEnableAndDisableMoveTheLatch : Obligations.OnlyEnableAndDisableMoveTheLatch := by
  unfold Obligations.OnlyEnableAndDisableMoveTheLatch
  refine ⟨fun s t h hne => ?_, fun s hf hc => ?_, fun s hf hc => ?_, fun _ => rfl,
    fun s b i hi => ?_⟩
  · have hf := faulted_of_step_next h
    by_cases hen : nextCommand s = some .enable
    · obtain ⟨u, hst, hu⟩ := step_enable hf hen
      cases hst.symm.trans h
      exact .inl ⟨hen, macroState_of_enabled hu⟩
    · by_cases hdis : nextCommand s = some .disable
      · obtain ⟨u, hst, hu⟩ := step_disable hf hdis
        cases hst.symm.trans h
        exact .inr ⟨hdis, macroState_of_disabled hu⟩
      · exact absurd (macroState_eq_of_en (step_en hen hdis h)) hne
  · obtain ⟨t, hst, ht⟩ := step_enable hf hc
    exact ⟨t, hst, macroState_of_enabled ht⟩
  · obtain ⟨t, hst, ht⟩ := step_disable hf hc
    exact ⟨t, hst, macroState_of_disabled ht⟩
  · simp only [List.mem_cons, List.not_mem_nil, or_false] at hi
    obtain rfl | rfl | rfl := hi
    · exact ⟨_, exec_rdpend s, rfl⟩
    · exact ⟨_, exec_rdreq s, rfl⟩
    · exact ⟨_, exec_rdmsk s, rfl⟩

/-- Settles O48: by the two cases of what a command can do to the fault mark. -/
theorem everyCommandAnswers : Obligations.EveryCommandAnswers := by
  unfold Obligations.EveryCommandAnswers
  intro i s
  obtain ⟨hwf, t, hx, hft, hr⟩ | ⟨hwf, -, -, -, hx⟩ := exec_fault_cases i s
  · exact ⟨t, hx, fun _ => ⟨hft, hr⟩, by simp [hwf]⟩
  · exact ⟨_, hx, by simp [hwf], fun _ => rfl⟩

/-- Settles O47: each clause from who writes that piece of state. -/
theorem commandFrame : Obligations.CommandFrame := by
  unfold Obligations.CommandFrame
  refine fun i s t h => ⟨exec_cmds h, fun hwf => exec_faulted hwf h,
    fun hen hdis => exec_en hen hdis h, fun hwm => ?_, fun hwr hfl => ?_,
    fun hwr hrq hfl => exec_req hwr hrq hfl h, fun hwr k hrq hdel => flag_exec_req hwr hrq hdel h⟩
  · by_contra hne
    obtain ⟨x, hi, -⟩ := exec_changes_msk h hne
    exact hwm x hi
  · by_contra hne
    obtain ⟨-, -, x, hi, -⟩ | ⟨-, hfl'⟩ := exec_changes_pend h hne
    · exact hwr x hi
    · simp [hfl] at hfl'

/-- Settles O49: a flush reads no `pend`, and neither does any other command but RDPEND. -/
theorem pendIsHidden : Obligations.PendIsHidden := by
  unfold Obligations.PendIsHidden
  exact fun _ s b hi => exec_setPend hi s b

/-- Settles O2: the fields reset writes; the register read inverts the mask within its five bits. -/
theorem resetIsDisabledAndUnfaulted : Obligations.ResetIsDisabledAndUnfaulted := by
  unfold Obligations.ResetIsDisabledAndUnfaulted
  refine ⟨fun mask => ⟨rfl, rfl, fun _ => rfl, rfl, rfl, ?_⟩, rfl⟩
  have hread : readRegister .msk (State.resetWith mask) = ~~~(mask.setWidth 8) &&& 0x1F#8 := by
    rw [readRegister, State.resetWith_msk]
    revert mask
    decide
  rw [exec_rdmsk, hread]

end

section
/-! SUPPORT. The flag file as a number, what posting and delivering do to each other, and the flushes one after
another (40_arbiter.md R100, R102 to R105). -/

namespace Sys2Proof

/-- Each index below 5 is a source's. -/
theorem Source.exists_index_eq {n : Nat} (hn : n < 5) : ∃ i : Source, i.index = n :=
  ⟨Source.all[n]'hn, (Source.ofIndex_eq_some.mp (List.getElem?_eq_getElem hn)).symm⟩

theorem Source.vec_eq (i : Source) : i.vec = BitVec.ofNat 8 (0x40 + 8 * i.index) := by
  cases i <;> decide

end Sys2Proof

namespace Sys2Proof.Machine

variable {s : State} {v m : FlagFile} {i j k : Source}

/-! ### The flag file as a number -/

/-- A number is `2 ^ n` modulo `2 ^ (n + 1)` just when `n` is its lowest set bit. -/
theorem mod_two_pow_succ_eq_iff {x n : Nat} :
    x % 2 ^ (n + 1) = 2 ^ n ↔ x.testBit n = true ∧ ∀ j < n, x.testBit j = false := by
  have hbits : x % 2 ^ (n + 1) = 2 ^ n ↔
      ∀ j, (decide (j < n + 1) && x.testBit j) = decide (n = j) := by
    simp only [← Nat.testBit_mod_two_pow, ← Nat.testBit_two_pow]
    exact ⟨fun h _ => by rw [h], Nat.eq_of_testBit_eq⟩
  rw [hbits]
  constructor
  · intro h
    refine ⟨by simpa using h n, fun j hj => ?_⟩
    simpa [hj.ne', Nat.lt_succ_of_lt hj] using h j
  · rintro ⟨hn, hbelow⟩ j
    obtain hj | rfl | hj := lt_trichotomy j n
    · simp [hbelow j hj, hj.ne']
    · simp [hn]
    · simp [hj.ne, hj]

/-- A source wins just when it is the lowest set bit of the unmasked requests. -/
theorem wins_iff_toNat_mod :
    Wins v m i ↔ (unmasked v m).toNat % 2 ^ (i.index + 1) = 2 ^ i.index := by
  have hflag (k : Source) :
      (unmasked v m).toNat.testBit k.index = (flag v k && !flag m k) := flag_unmasked v m k
  rw [mod_two_pow_succ_eq_iff, hflag, Bool.and_eq_true, Bool.not_eq_true', Wins, and_assoc]
  refine and_congr_right fun _ => and_congr_right fun _ => ⟨fun h n hn => ?_, fun h j hj => ?_⟩
  · obtain ⟨j, rfl⟩ := Source.exists_index_eq (hn.trans i.index_lt)
    rw [hflag]
    simpa [imp_iff_not_or] using h j (Source.rank_lt_rank_iff.mpr hn)
  · have := h j.index (Source.rank_lt_rank_iff.mp hj)
    rw [hflag] at this
    simpa [imp_iff_not_or] using this

/-- No source wins just when no unmasked request is left. -/
theorem noneWins_iff : NoneWins v m ↔ unmasked v m = 0#5 := by
  refine ⟨fun h => flagFile_ext fun i => ?_, fun h i => ?_⟩
  · simpa [imp_iff_not_or] using h i
  · have : flag (unmasked v m) i = false := by rw [h, flag_zero]
    simpa [imp_iff_not_or] using this

/-! ### Posting and delivering -/

theorem setFlag_setFlag_self (v : FlagFile) (i : Source) : setFlag (setFlag v i) i = setFlag v i := by
  rw [setFlag, setFlag, BitVec.or_assoc, BitVec.or_self]

theorem setFlag_comm (v : FlagFile) (i j : Source) :
    setFlag (setFlag v i) j = setFlag (setFlag v j) i := by
  simp only [setFlag, BitVec.or_assoc, BitVec.or_comm (1#5 <<< i.index)]

/-- A flag set and cleared again is as it was, if it was clear. -/
theorem clearFlag_setFlag (h : flag v i = false) : clearFlag (setFlag v i) i = v := by
  refine flagFile_ext fun k => ?_
  by_cases hk : k = i
  · rw [hk, flag_clearFlag_self, h]
  · rw [flag_clearFlag_of_ne _ hk, flag_setFlag_of_ne _ hk]

theorem State.postRequest_self (s : State) (i : Source) :
    (s.postRequest i).postRequest i = s.postRequest i :=
  congrArg s.setReqFlags (setFlag_setFlag_self s.req i)

theorem State.postRequest_comm (s : State) (i j : Source) :
    (s.postRequest i).postRequest j = (s.postRequest j).postRequest i :=
  congrArg s.setReqFlags (setFlag_comm s.req i j)

/-- A response does not enter a posted request, and the next response replaces it. -/
theorem State.postRequest_respond (s : State) (r r' : Response) (i : Source) :
    ((s.respond r).postRequest i).respond r' = (s.postRequest i).respond r' := rfl

/-- Where nothing is deliverable, a posted unmasked source wins. -/
theorem wins_setFlag (hmsk : flag m i = false) (hnone : NoneWins v m) : Wins (setFlag v i) m i := by
  refine ⟨flag_setFlag_self v i, hmsk, fun j hj => ?_⟩
  have hji : j ≠ i := fun hji => absurd (hji ▸ hj) (lt_irrefl _)
  rw [flag_setFlag_of_ne v hji]
  exact hnone j

/-! ### Flushes one after another -/

/-- `u` is what flushes have made of the enabled state `s` once every source of index below `n` has had its
turn: the masked requests are all there, the unmasked ones of those sources gone. -/
structure Drained (s : State) (n : Nat) (u : State) : Prop where
  enabled : u.en = true
  masks : u.msk = s.msk
  keeps_masked : ∀ k, flag s.msk k = true → flag u.req k = flag s.req k
  clears_unmasked : ∀ k : Source, k.index < n → flag s.msk k = false → flag u.req k = false

theorem drained_zero (hen : s.en = true) : Drained s 0 s :=
  ⟨hen, rfl, fun _ _ => rfl, fun _ hk => absurd hk (Nat.not_lt_zero _)⟩

/-- One flush serves at least the next source in turn: the winner is of no lower index, and every source
before it has nothing left to deliver. -/
theorem Drained.doFlush {n : Nat} {u : State} (h : Drained s n u) :
    Drained s (n + 1) (doFlush u).1 := by
  obtain ⟨hen, hmsk, hkeep, hclear⟩ := h
  have hen' := (doFlush_en u).trans hen
  have hmsk' := (doFlush_msk u).trans hmsk
  obtain ⟨i, -, hi, hfl⟩ | ⟨-, hnone, hfl⟩ | ⟨hdis, -⟩ := doFlush_cases u
  · obtain ⟨hireq, himsk, hbefore⟩ : Wins u.req s.msk i := hmsk ▸ select_eq_some_iff.mp hi
    refine ⟨hen', hmsk', fun k hk => ?_, fun k hkn hk => ?_⟩
    · have hki : k ≠ i := by rintro rfl; simp [hk] at himsk
      rw [hfl, State.clearRequest_req, flag_clearFlag_of_ne _ hki]
      exact hkeep k hk
    · rw [hfl, State.clearRequest_req]
      obtain rfl | hki := eq_or_ne k i
      · exact flag_clearFlag_self _ k
      · rw [flag_clearFlag_of_ne _ hki]
        refine Bool.eq_false_iff.mpr fun hkreq => ?_
        have hik : ¬k.index < i.index :=
          fun hlt => hbefore k (Source.rank_lt_rank_iff.mpr hlt) ⟨hkreq, hk⟩
        have hin : ¬i.index < n := fun hlt => by simp [hclear i hlt himsk] at hireq
        exact hki (Source.index_injective (by omega))
  · rw [select_eq_none_iff, hmsk] at hnone
    refine ⟨hen', hmsk', fun k hk => ?_, fun k _ hk => ?_⟩ <;> rw [hfl, State.setPend_req]
    · exact hkeep k hk
    · exact Bool.eq_false_iff.mpr fun hkreq => hnone k ⟨hkreq, hk⟩
  · simp [hen] at hdis

theorem drained_iterate (hen : s.en = true) (n : Nat) :
    Drained s n ((fun u => (Machine.doFlush u).1)^[n] s) := by
  induction n with
  | zero => exact drained_zero hen
  | succ n ih =>
    rw [Function.iterate_succ_apply']
    exact ih.doFlush

/-- Five turns serve all five sources. -/
theorem Drained.req_eq {u : State} (h : Drained s 5 u) : u.req = s.req &&& s.msk := by
  refine flagFile_ext fun k => ?_
  have hand : flag (s.req &&& s.msk) k = (flag s.req k && flag s.msk k) := BitVec.getLsbD_and
  cases hk : flag s.msk k with
  | false => rw [h.clears_unmasked k k.index_lt hk, hand, hk, Bool.and_false]
  | true => rw [h.keeps_masked k hk, hand, hk, Bool.and_true]

end Sys2Proof.Machine
end

section
/-! PROOFS. The sources and the encoder (10_state.md R27, 40_arbiter.md R100), the shared flush (R102 to R105)
and REQUEST (R107, R108; 60_exceptions.md R163, R167, R178). -/

namespace Sys2Proof.Machine

variable {s t : State} {r : Response}

/-- The flush of an enabled state does not wake (40_arbiter.md R106). -/
theorem flushAndRespond_wake (hen : s.en = true) (hr : (flushAndRespond s).resp = some r) :
    r.wake = false := by
  obtain rfl : (doFlush s).2 = r := Option.some.inj hr
  refine Bool.eq_false_iff.mpr fun hwake => ?_
  obtain ⟨hdis, -⟩ := doFlush_wake_iff.mp hwake
  simp [hen] at hdis

/-- A flush that delivers a source leaves its flag clear. -/
theorem flag_flushAndRespond_of_deliver {k : Source}
    (h : (flushAndRespond s).resp = some { deliver := some k.vec }) :
    flag (flushAndRespond s).req k = false := by
  have hdel : (doFlush s).2 = { deliver := some k.vec } := Option.some.inj h
  rw [flushAndRespond_req, flag_doFlush_req, hdel]
  simp

/-- REQUEST's word `0x1s00` (30_encoding.md R72). -/
theorem encode_request (src : BitVec 3) :
    encode (.request src) = 0x1000#16 ||| src.setWidth 16 <<< 8 := by
  revert src; decide

end Sys2Proof.Machine

open Sys2Proof Sys2Proof.Machine

/-- Settles O18: the registers, the scan and the rank all go by the index; the vectors are a table. -/
theorem oneIndexServesEveryPurpose : Obligations.OneIndexServesEveryPurpose := by
  unfold Obligations.OneIndexServesEveryPurpose
  exact fun s i => ⟨⟨_, exec_rdreq s, getLsbD_readRegister_req s i⟩,
    ⟨_, exec_rdmsk s, getLsbD_readRegister_msk s i⟩, rfl, i.ofIndex_index, i.vec_eq⟩

/-- Settles O20: the winner is the lowest set bit of the unmasked requests. -/
theorem encoderCountsTrailingZeros : Obligations.EncoderCountsTrailingZeros := by
  unfold Obligations.EncoderCountsTrailingZeros
  exact fun v m => ⟨select_eq_none_iff.trans noneWins_iff,
    fun i => select_eq_some_iff.trans wins_iff_toNat_mod⟩

/-- Settles O25: all three run the one flush procedure, from the states named. -/
theorem flushSharedByRequestAndEnable : Obligations.FlushSharedByRequestAndEnable := by
  unfold Obligations.FlushSharedByRequestAndEnable
  refine fun s => ⟨rfl, fun hen => ?_, fun src i hi hen => exec_request_enabled hen hi⟩
  have hself : s.setEn true = s := hen ▸ rfl
  rw [exec_enable, hself, exec_flush]

/-- Settles O26: each flush serves the next source in turn, and there are five. -/
theorem fiveFlushesDrain : Obligations.FiveFlushesDrain := by
  unfold Obligations.FiveFlushesDrain
  exact fun s hen => (drained_iterate hen 5).req_eq

/-- Settles O27: REQUEST's own cases, and those of its nested flush. -/
theorem requestEffect : Obligations.RequestEffect := by
  unfold Obligations.RequestEffect
  refine fun s src => ⟨?_, fun hgt => ?_, fun i hi =>
    ⟨exec_request_disabled (hk := hi), fun hen hnone => ?_, fun j hen hj => ?_⟩⟩
  · rw [← encode_request, decode_encode]
  · exact ⟨_, exec_request_invalid s hgt, by rw [raiseFault_faulted, encode_request],
      rfl, rfl, rfl, rfl⟩
  · rw [exec_request_enabled hen hi, flushAndRespond,
      doFlush_of_noneWins (s := s.postRequest i) hen hnone]
    rfl
  · rw [exec_request_enabled hen hi, flushAndRespond,
      doFlush_of_wins (s := s.postRequest i) hen hj]
    rfl

/-- Settles O28: the nested flush runs with `en` true. -/
theorem nestedFlushNeverWakes : Obligations.NestedFlushNeverWakes := by
  unfold Obligations.NestedFlushNeverWakes
  refine fun s t r hr => ⟨fun src h => ?_, fun h => ?_⟩
  · obtain ⟨-, hx⟩ | ⟨k, -, -, hx⟩ | ⟨k, -, hen, hx⟩ := execRequest_cases src s <;>
      cases hx.symm.trans h
    · cases hr
    · cases hr; rfl
    · exact flushAndRespond_wake (s := s.postRequest k) hen hr
  · cases h
    exact flushAndRespond_wake (s := s.setEn true) rfl hr

/-- Settles O29: posting twice is posting once, and the delivery clears the flag. -/
theorem duplicateRequestMerges : Obligations.DuplicateRequestMerges := by
  unfold Obligations.DuplicateRequestMerges
  refine fun s src i hi hen => ⟨_, exec_request_disabled hen hi, ?_,
    _, exec_enable _, flag_flushAndRespond_of_deliver⟩
  rw [exec_request_disabled (s := (s.postRequest i).respond {}) hen hi, State.postRequest_respond,
    State.postRequest_self]

/-- Settles O30: posting commutes; with nothing else deliverable the posted source wins its own flush. -/
theorem arrivalOrderMattersOnlyEnabled : Obligations.ArrivalOrderMattersOnlyEnabled := by
  unfold Obligations.ArrivalOrderMattersOnlyEnabled
  refine fun s a i hi => ⟨fun b j hj hen => ?_, fun hen hmsk hnone => ?_⟩
  · refine ⟨_, _, _, exec_request_disabled hen hi, exec_request_disabled hen hj,
      exec_request_disabled hen hj, ?_⟩
    rw [exec_request_disabled (s := (s.postRequest j).respond {}) hen hi,
      State.postRequest_respond, State.postRequest_respond, State.postRequest_comm]
  · have hwins : Wins (s.postRequest i).req (s.postRequest i).msk i := wins_setFlag hmsk hnone
    have hclear : flag s.req i = false := Bool.eq_false_iff.mpr fun hreq => hnone i ⟨hreq, hmsk⟩
    refine ⟨_, exec_request_enabled hen hi, flushAndRespond_resp_of_wins hen hwins, ?_⟩
    rw [flushAndRespond_req, doFlush_of_wins (s := s.postRequest i) hen hwins]
    exact clearFlag_setFlag hclear

/-- Settles O34: a flush-performing command ends with its flush. -/
theorem flushingCommandsClearPend : Obligations.FlushingCommandsClearPend := by
  unfold Obligations.FlushingCommandsClearPend
  intro s i hfl
  obtain ⟨u, -, hx⟩ := exec_of_performsFlush hfl
  have hpend := flushAndRespond_pend u
  have hbyte : boolByte (flushAndRespond u).pend = 0x00#8 := congrArg boolByte hpend
  refine ⟨_, hx, hpend, ?_⟩
  rw [exec_rdpend, hbyte]
  rfl

end

section
/-! PROOFS. Reading and writing the registers (42_registers.md R142, R143, R147 to R149; 20_memory.md R56). -/

namespace Sys2Proof.Machine

theorem encode_wrmsk (x : Byte) : encode (.wrmsk x) = 0x9000#16 ||| x.setWidth 16 := by
  revert x; decide

/-- The request register reads as the value last written, bits 7:5 as 1 (42_registers.md R149). -/
theorem readRegister_req_of_write {s : State} {x : Byte} (h : s.req = reqOfData x) :
    readRegister .req s = (x &&& 0x1F#8) ||| 0xE0#8 := by
  have key : ∀ x : Byte, 0xE0#8 ||| zext8 (reqOfData x) = (x &&& 0x1F#8) ||| 0xE0#8 := by decide
  rw [readRegister, h, key]

/-- The mask register reads as the value last written, bits 7:5 as 0 (42_registers.md R149). -/
theorem readRegister_msk_of_write {s : State} {x : Byte} (h : s.msk = mskOfData x) :
    readRegister .msk s = x &&& 0x1F#8 := by
  have key : ∀ x : Byte, zext8 (~~~mskOfData x &&& 0x1F#5) = x &&& 0x1F#8 := by decide
  rw [readRegister, h, key]

/-- RDMSK after a WRMSK. -/
theorem exec_rdmsk_of_write {s : State} {x : Byte} (h : s.msk = mskOfData x) :
    exec .rdmsk s = .next { s with resp := some { rdata := some (x &&& 0x1F#8) } } := by
  rw [exec_rdmsk, readRegister_msk_of_write h]
  rfl

theorem mskOfData_eq (x : Byte) : mskOfData x = ~~~(x.setWidth 5) := by
  rw [mskOfData, dataFlags, BitVec.setWidth_eq_extractLsb' (by decide)]

/-- The same write again finds `pend` as it would leave it. -/
theorem pendAfterWrite_idem (e p : Bool) (x : Byte) :
    pendAfterWrite e (pendAfterWrite e p x) x = pendAfterWrite e p x := by
  unfold pendAfterWrite
  split <;> rfl

end Sys2Proof.Machine

open Sys2Proof Sys2Proof.Machine

/-- Settles O38: WRMSK writes the inverted flags, which RDMSK inverts back. -/
theorem wrmskEffect : Obligations.WrmskEffect := by
  unfold Obligations.WrmskEffect
  refine fun x => ⟨?_, fun s => ⟨_, exec_wrmsk x s, flag_mskOfData x, rfl, rfl,
    exec_rdmsk_of_write rfl⟩⟩
  rw [← encode_wrmsk, decode_encode]

/-- Settles O39: each register reads what was written to it. -/
theorem registerRoundTrip : Obligations.RegisterRoundTrip := by
  unfold Obligations.RegisterRoundTrip
  refine fun s x => ⟨⟨_, exec_wrreq x s, ?_⟩, ⟨_, exec_wrmsk x s, exec_rdmsk_of_write rfl⟩⟩
  rw [exec_rdreq, readRegister_req_of_write (x := x) rfl]
  rfl

/-- Settles O41: WRMSK leaves `en` and the requests, so the next FLUSH sees the winner under the new mask. -/
theorem unmaskingWaitsForFlush : Obligations.UnmaskingWaitsForFlush := by
  unfold Obligations.UnmaskingWaitsForFlush
  refine fun s y => ⟨_, exec_wrmsk y s, rfl, rfl, rfl, fun i hen hi => ?_⟩
  rw [← mskOfData_eq] at hi
  exact ⟨_, exec_flush _, flushAndRespond_resp_of_wins hen hi⟩

/-- Settles O42: a read's value depends on no response, and a write's result on no flag it has written. -/
theorem readsAndRewritesSettle : Obligations.ReadsAndRewritesSettle := by
  unfold Obligations.ReadsAndRewritesSettle
  refine fun s => ⟨fun i hi => ?_, fun x i hi => ?_⟩
  · simp only [List.mem_cons, List.not_mem_nil, or_false] at hi
    obtain rfl | rfl | rfl := hi
    · exact ⟨_, exec_rdpend s, rfl⟩
    · exact ⟨_, exec_rdreq s, rfl⟩
    · exact ⟨_, exec_rdmsk s, rfl⟩
  · simp only [List.mem_cons, List.not_mem_nil, or_false] at hi
    obtain rfl | rfl := hi
    · refine ⟨_, exec_wrreq x s, ?_⟩
      rw [exec_wrreq]
      simp only [State.respond_en, State.respond_pend, State.setPend_en, State.setPend_pend,
        State.setReqFlags_en, pendAfterWrite_idem]
      rfl
    · exact ⟨_, exec_wrmsk x s, rfl⟩

end

section
/-! SUPPORT. The text of commands (30_encoding.md R79): a line splits into its mnemonic and its operand, and each
written operand reads back, in either case of letters. -/

namespace Sys2Proof

/-- A character that neither ends a word nor starts a comment. -/
def isPlain (c : Char) : Bool := !isBlank c && c != ';'

variable {m t : List Char} {op : Op}

/-! ### A line and its words -/

/-- A word runs up to the next blank. -/
theorem splitWords_append {word cs : List Char} (hm : ∀ c ∈ m, isBlank c = false) :
    splitWords word (m ++ cs) = splitWords (word ++ m) cs := by
  induction m generalizing word with
  | nil => rw [List.nil_append, List.append_nil]
  | cons c m ih =>
    rw [List.forall_mem_cons] at hm
    rw [List.cons_append, splitWords, hm.1, if_neg Bool.false_ne_true, ih hm.2, List.append_assoc,
      List.singleton_append]

/-- A word without blanks is the one word of its line. -/
theorem splitWords_word (hm : ∀ c ∈ m, isBlank c = false) (hne : m ≠ []) : splitWords [] m = [m] := by
  have h := splitWords_append (word := []) (cs := []) hm
  rwa [List.append_nil, List.nil_append, splitWords, List.isEmpty_eq_false_iff.mpr hne] at h

/-- A blank ends the first word. -/
theorem splitWords_blank (hm : ∀ c ∈ m, isBlank c = false) (hne : m ≠ []) (cs : List Char) :
    splitWords [] (m ++ ' ' :: cs) = m :: splitWords [] cs := by
  rw [splitWords_append hm, List.nil_append, splitWords, List.isEmpty_eq_false_iff.mpr hne]
  rfl

/-- A word of plain characters has no blank, and no comment mark. -/
theorem all_isPlain_iff : m.all isPlain = true ↔ (∀ c ∈ m, isBlank c = false) ∧ ';' ∉ m := by
  simp only [List.all_eq_true, isPlain, Bool.and_eq_true, Bool.not_eq_true', bne_iff_ne]
  refine ⟨fun h => ⟨fun c hc => (h c hc).1, fun hc => (h _ hc).2 rfl⟩, fun h c hc => ⟨h.1 c hc, ?_⟩⟩
  exact ne_of_mem_of_not_mem hc h.2

theorem takeWhile_comment {line : List Char} (h : ';' ∉ line) :
    line.takeWhile (· != ';') = line :=
  List.takeWhile_eq_self_iff.mpr fun _ hc => bne_iff_ne.mpr (ne_of_mem_of_not_mem hc h)

/-- What a line holds before its comment is all the line says. -/
theorem assembleLine_comment {line : List Char} (h : ';' ∉ line) (note : List Char) :
    assembleLine (line ++ ';' :: note) = assembleLine line := by
  have hcut : (line ++ ';' :: note).takeWhile (· != ';') = line.takeWhile (· != ';') := by
    have hall := List.takeWhile_eq_self_iff.mp (takeWhile_comment h)
    rw [List.takeWhile_append_of_pos hall, List.takeWhile_cons_of_neg (by decide),
      List.append_nil, takeWhile_comment h]
  rw [assembleLine, hcut, assembleLine]

/-- The nine mnemonics differ. -/
theorem find_name (op : Op) : Op.all.find? (fun o => o.name == op.name) = some op := by
  cases op <;> decide

/-- A line whose first word is a mnemonic, in either case, is that operation's command on the other words. -/
theorem assembleLine_of_splitWords {line : List Char} {operands : List (List Char)}
    (hline : ';' ∉ line) (hsplit : splitWords [] line = m :: operands)
    (hname : m.map Char.toUpper = op.name) :
    assembleLine line = (parseCommand op operands).map fun i => [i] := by
  simp only [assembleLine, takeWhile_comment hline, hsplit, hname, find_name]

/-! ### A way to write letters that the assembler reads back -/

/-- Written through `f`, every mnemonic and every operand still reads as itself. -/
structure ReadsBack (f : Char → Char) : Prop where
  blank : f ' ' = ' '
  mnemonic : ∀ op ∈ Op.all, (op.name.map f).map Char.toUpper = op.name
  mnemonic_plain : ∀ op ∈ Op.all, (op.name.map f).all isPlain = true
  source : ∀ src : BitVec 3, parseSrc ((writeSrc src).map f) = some src
  source_plain : ∀ src : BitVec 3, ((writeSrc src).map f).all isPlain = true
  marks : ['#', '0', 'x'].map f = ['#', '0', 'x']
  digit : ∀ n < 16, hexValue (f (hexDigits.getD n '0')) = some n
  digit_plain : ∀ n < 16, isPlain (f (hexDigits.getD n '0')) = true

/-- As `writeLine` writes it. -/
theorem readsBack_id : ReadsBack fun c => c := by
  constructor <;> decide

/-- In lower case (hex digits too: log 12). -/
theorem readsBack_toLower : ReadsBack Char.toLower := by
  constructor <;> decide

section

variable {f : Char → Char} (hf : ReadsBack f)
include hf

theorem ReadsBack.writeImm_map (x : Byte) :
    (writeImm x).map f =
      ['#', '0', 'x', f (hexDigits.getD (x.toNat / 16) '0'), f (hexDigits.getD (x.toNat % 16) '0')] := by
  obtain ⟨h0, h1, h2⟩ : f '#' = '#' ∧ f '0' = '0' ∧ f 'x' = 'x' := by simpa using hf.marks
  rw [writeImm, List.map_cons, List.map_cons, List.map_cons, List.map_cons, List.map_singleton,
    h0, h1, h2]

theorem ReadsBack.immediate (x : Byte) : parseImm ((writeImm x).map f) = some x := by
  have hhi := hf.digit (x.toNat / 16) (by omega)
  have hlo := hf.digit (x.toNat % 16) (by omega)
  rw [hf.writeImm_map]
  simp only [parseImm, hhi, hlo, Nat.div_add_mod, BitVec.ofNat_toNat, BitVec.setWidth_eq]

theorem ReadsBack.immediate_plain (x : Byte) : ((writeImm x).map f).all isPlain = true := by
  have hhi := hf.digit_plain (x.toNat / 16) (by omega)
  have hlo := hf.digit_plain (x.toNat % 16) (by omega)
  rw [hf.writeImm_map]
  simp only [List.all_cons, List.all_nil, hhi, hlo]
  decide

theorem ReadsBack.mnemonic_word (op : Op) :
    op.name.map f ≠ [] ∧ (op.name.map f).map Char.toUpper = op.name ∧
      (∀ c ∈ op.name.map f, isBlank c = false) ∧ ';' ∉ op.name.map f := by
  have hne : op.name ≠ [] := by cases op <;> decide
  exact ⟨by simpa using hne, hf.mnemonic op op.mem_all, all_isPlain_iff.mp (hf.mnemonic_plain op op.mem_all)⟩

/-- The line of an operation alone. -/
theorem ReadsBack.assembleLine_mnemonic (op : Op) :
    assembleLine (op.name.map f) = (parseCommand op []).map fun i => [i] := by
  obtain ⟨hne, hname, hblank, hmark⟩ := hf.mnemonic_word op
  exact assembleLine_of_splitWords hmark (splitWords_word hblank hne) hname

/-- The line of an operation and an operand. -/
theorem ReadsBack.assembleLine_operand (op : Op) (ht : (t.map f).all isPlain = true)
    (htne : t ≠ []) :
    assembleLine ((op.name ++ [' '] ++ t).map f) =
      (parseCommand op [t.map f]).map fun i => [i] := by
  obtain ⟨hne, hname, hblank, hmark⟩ := hf.mnemonic_word op
  obtain ⟨htblank, htmark⟩ := all_isPlain_iff.mp ht
  have hline : (op.name ++ [' '] ++ t).map f = op.name.map f ++ ' ' :: t.map f := by
    rw [List.append_assoc, List.singleton_append, List.map_append, List.map_cons, hf.blank]
  rw [hline]
  refine assembleLine_of_splitWords ?_ ?_ hname
  · rw [List.mem_append, List.mem_cons]
    rintro (hc | hc | hc)
    · exact hmark hc
    · exact absurd hc (by decide)
    · exact htmark hc
  · rw [splitWords_blank hblank hne, splitWords_word htblank (by simpa using htne)]

/-- The written line of a command assembles to it. -/
theorem ReadsBack.assembleLine_writeLine (i : Instr) :
    assembleLine ((writeLine i).map f) = some [i] := by
  cases i with
  | request src =>
    have hne : writeSrc src ≠ [] := by revert src; decide
    rw [writeLine, hf.assembleLine_operand _ (hf.source_plain src) hne, parseCommand, hf.source]
    rfl
  | wrreq x | wrmsk x =>
    rw [writeLine, hf.assembleLine_operand _ (hf.immediate_plain x) (List.cons_ne_nil _ _),
      parseCommand, hf.immediate]
    rfl
  | flush | enable | disable | rdpend | rdreq | rdmsk =>
    rw [writeLine, hf.assembleLine_mnemonic]
    rfl

end

/-- No written line holds the comment mark. -/
theorem comment_notMem_writeLine (i : Instr) : ';' ∉ writeLine i := by
  cases i with
  | request src => revert src; decide
  | wrreq x | wrmsk x => revert x; decide
  | flush | enable | disable | rdpend | rdreq | rdmsk => decide

theorem assembleLine_writeLine (i : Instr) : assembleLine (writeLine i) = some [i] := by
  simpa using readsBack_id.assembleLine_writeLine i

end Sys2Proof
end

section
/-! PROOFS. The text of commands (30_encoding.md R79, R80). -/

open Sys2Proof

/-- Settles O15: each line splits into its mnemonic and operand, which read back in either case; the comment
is cut off first. -/
theorem assemblerReadsEachCommand : Obligations.AssemblerReadsEachCommand := by
  unfold Obligations.AssemblerReadsEachCommand
  exact fun i note => ⟨assembleLine_writeLine i, readsBack_toLower.assembleLine_writeLine i,
    (assembleLine_comment (comment_notMem_writeLine i) note).trans (assembleLine_writeLine i)⟩

/-- Settles O16: by induction over the lines. -/
theorem assemblerKeepsOrder : Obligations.AssemblerKeepsOrder := by
  unfold Obligations.AssemblerKeepsOrder
  intro is
  induction is with
  | nil => rfl
  | cons i is ih =>
    rw [List.map_cons, assembleLines, assembleLine_writeLine, ih]
    rfl

end
